-- ==== Sys2Proof/Word.lean ====
section
/-! DEFINITION. The words of the block: bytes, 32-bit registers, and the three selector words it decodes
(30_encoding.md R56, R69, R70, R71). -/

namespace Sys2Proof

/-- One byte of a window (R31, R32); one channel of an output pixel (R67). -/
abbrev Byte := BitVec 8

/-- One 32-bit register, or the data word of a register write (R15, R69). -/
abbrev Word := BitVec 32

/-- A selector word the block decodes (R56). The block fetches no instructions (R55): each of its three
selector maps has its own word, and the word's kind says which map reads it. -/
inductive Selector where
  /-- A host register access (R69): the 9-bit word `W, OFF[7:0]`, and the 32-bit data word a write carries.
  A read carries no data word and its decoding does not look at `data`. -/
  | bus (sel : BitVec 9) (data : Word)
  /-- The conversion selector (R70): the 33-bit word `ALPHA_REQ, FORMAT[31:0]`. -/
  | cvt (sel : BitVec 33)
  /-- The transform selector (R71): the 32-bit TRANSFORM word. -/
  | xform (sel : Word)
deriving DecidableEq, Repr

end Sys2Proof
end

