-- ==== Sys2Proof/Config.lean ====
section
/-! DEFINITION. The implementation parameters of 00_scope.md R7, the pixel formats, and the free values:
what the spec leaves as any value has no body here, so nothing can be proved of it. -/

namespace Sys2Proof

/-- `PIX16_BYTE_ORDER` (R44, D5). -/
inductive ByteOrder where
  | le
  | be
deriving DecidableEq, Repr

/-- `RGBA4444_LAYOUT` (R64, D4): the nibble index each channel is taken from. -/
structure NibbleLayout where
  r : Fin 4
  g : Fin 4
  b : Fin 4
  a : Fin 4
deriving DecidableEq, Repr

/-- R7: the map from channel to nibble index is one-to-one. -/
abbrev NibbleLayout.OneToOne (l : NibbleLayout) : Prop :=
  [l.r, l.g, l.b, l.a].Nodup

/-- `TRANSFORM_RESERVED_POLICY` (R59, D9). -/
inductive ReservedPolicy where
  | reject
  | ignore
deriving DecidableEq, Repr

/-- `ROT_SENSE` (R97 to R100, D10). -/
inductive RotSense where
  | undoCw
  | applyCw
deriving DecidableEq, Repr

/-- `PITCH_ALIGN_CHECK` (R145, D12): `noCheck` is the spec's `NONE`. -/
inductive PitchAlignCheck where
  | noCheck
  | bytes16
  | bpp16
deriving DecidableEq, Repr

/-- The parameters of R7 that are not fixed. -/
structure Params where
  /-- `SRC_WINDOW_BYTES`, OPEN. -/
  srcWindowBytes : Nat
  /-- `OUT_WINDOW_BYTES`, OPEN. -/
  outWindowBytes : Nat
  pix16ByteOrder : ByteOrder
  rgba4444Layout : NibbleLayout
  reservedPolicy : ReservedPolicy
  rotSense : RotSense
  pitchAlignCheck : PitchAlignCheck
deriving DecidableEq, Repr

/-- The ranges R7 gives: both windows hold at least one byte and the nibble layout is one-to-one. -/
abbrev Params.Ok (p : Params) : Prop :=
  1 ≤ p.srcWindowBytes ∧ 1 ≤ p.outWindowBytes ∧ p.rgba4444Layout.OneToOne

/-- One less than `SRC_WINDOW_BYTES`, which R7 leaves OPEN (a natural ≥ 1). Assumption 3. -/
opaque Config.srcWindowBytesLessOne : Nat

/-- One less than `OUT_WINDOW_BYTES`, which R7 leaves OPEN (a natural ≥ 1). Assumption 3. -/
opaque Config.outWindowBytesLessOne : Nat

/-- The value of an output byte that no run has written since the reset of that number: any value, one draw
per byte (R36, R53, 93_implementation_defined.md entry 15). First argument: how many resets the block has
taken; second: the offset. Assumption 5. -/
opaque Config.outFreeByte : Nat → Nat → Byte

/-- The value of a source byte that no `LOADSRC` of the schedule has written: SRC contents are any value
chosen by the host (93_implementation_defined.md entry 29). Assumption 6. -/
opaque Config.srcFreeByte : Nat → Byte

/-- R7: the OPEN parameters free, every other one at the value shown. -/
def Config.params : Params where
  srcWindowBytes := Config.srcWindowBytesLessOne + 1
  outWindowBytes := Config.outWindowBytesLessOne + 1
  pix16ByteOrder := .le
  rgba4444Layout := ⟨3, 2, 1, 0⟩
  reservedPolicy := .reject
  rotSense := .undoCw
  pitchAlignCheck := .noCheck

/-- The four source pixel formats (R1, R57). -/
inductive PixelFormat where
  | rgb565
  | rgba4444
  | rgb888
  | rgba8888
deriving DecidableEq, Repr

end Sys2Proof
end

