-- ==== Sys2Proof/Syntax.lean ====
section
/-! DEFINITION. The instructions: one constructor per row of spec/opcode_table.json. The block has no
instruction stream (R13); its 44 "instructions" are the 22 host register accesses (R69), the 6 pixel
conversions (R70) and the 16 transform codes (R71). -/

namespace Sys2Proof

/-- One constructor per opcode-table row, in the table's order. -/
inductive Instr where
  /-- RD_CTRL (R17). -/
  | rdCtrl
  /-- WR_CTRL (R124): a write of the data word `d`. -/
  | wrCtrl (d : Word)
  /-- RD_STATUS (R18). -/
  | rdStatus
  /-- WR_STATUS (R18): a write of the data word `d`. -/
  | wrStatus (d : Word)
  /-- RD_FORMAT (R19). -/
  | rdFormat
  /-- WR_FORMAT (R19): a write of the data word `d`. -/
  | wrFormat (d : Word)
  /-- RD_TRANSFORM (R20). -/
  | rdTransform
  /-- WR_TRANSFORM (R20): a write of the data word `d`. -/
  | wrTransform (d : Word)
  /-- RD_CAP_WIDTH (R21). -/
  | rdCapWidth
  /-- WR_CAP_WIDTH (R21): a write of the data word `d`. -/
  | wrCapWidth (d : Word)
  /-- RD_CAP_HEIGHT (R22). -/
  | rdCapHeight
  /-- WR_CAP_HEIGHT (R22): a write of the data word `d`. -/
  | wrCapHeight (d : Word)
  /-- RD_CAP_PITCH (R23). -/
  | rdCapPitch
  /-- WR_CAP_PITCH (R23): a write of the data word `d`. -/
  | wrCapPitch (d : Word)
  /-- RD_OUT_WIDTH (R24). -/
  | rdOutWidth
  /-- WR_OUT_WIDTH (R24): a write of the data word `d`. -/
  | wrOutWidth (d : Word)
  /-- RD_OUT_HEIGHT (R25). -/
  | rdOutHeight
  /-- WR_OUT_HEIGHT (R25): a write of the data word `d`. -/
  | wrOutHeight (d : Word)
  /-- RD_SINK_PARAM (R26). -/
  | rdSinkParam
  /-- WR_SINK_PARAM (R26): a write of the data word `d`. -/
  | wrSinkParam (d : Word)
  /-- RD_UNMAPPED (R27): a read of an unmapped offset. -/
  | rdUnmapped (off : BitVec 8)
  /-- WR_UNMAPPED (R27): a write to an unmapped offset. -/
  | wrUnmapped (off : BitVec 8) (d : Word)
  /-- CVT_RGB565 (R84): `alphaReq` is selector bit 32, which this row leaves free (R70). -/
  | cvtRgb565 (alphaReq : Bool)
  /-- CVT_RGBA4444_RGBA (R85). -/
  | cvtRgba4444Rgba
  /-- CVT_RGBA4444_RGB (R86). -/
  | cvtRgba4444Rgb
  /-- CVT_RGB888 (R87): `alphaReq` is selector bit 32, which this row leaves free (R70). -/
  | cvtRgb888 (alphaReq : Bool)
  /-- CVT_RGBA8888_RGBA (R88). -/
  | cvtRgba8888Rgba
  /-- CVT_RGBA8888_RGB (R89). -/
  | cvtRgba8888Rgb
  /-- XF_Q0 (R102). -/
  | xfQ0
  /-- XF_Q0_H (R103). -/
  | xfQ0H
  /-- XF_Q0_V (R104). -/
  | xfQ0V
  /-- XF_Q0_HV (R105). -/
  | xfQ0Hv
  /-- XF_Q1 (R106). -/
  | xfQ1
  /-- XF_Q1_H (R107). -/
  | xfQ1H
  /-- XF_Q1_V (R108). -/
  | xfQ1V
  /-- XF_Q1_HV (R109). -/
  | xfQ1Hv
  /-- XF_Q2 (R110). -/
  | xfQ2
  /-- XF_Q2_H (R111). -/
  | xfQ2H
  /-- XF_Q2_V (R112). -/
  | xfQ2V
  /-- XF_Q2_HV (R113). -/
  | xfQ2Hv
  /-- XF_Q3 (R114). -/
  | xfQ3
  /-- XF_Q3_H (R115). -/
  | xfQ3H
  /-- XF_Q3_V (R116). -/
  | xfQ3V
  /-- XF_Q3_HV (R117). -/
  | xfQ3Hv
deriving DecidableEq, Repr

end Sys2Proof
end

