-- ==== Sys2Proof/WellFormed.lean ====
section
/-! DEFINITION. Which instructions an encoding exists for (R27, R47, R69). -/

namespace Sys2Proof

/-- R47: register accesses are made at offsets that are multiples of 4. -/
abbrev AlignedOffset (off : BitVec 8) : Prop :=
  off.toNat % 4 = 0

/-- R27: the unmapped offsets are those from 0x28 on. -/
abbrev UnmappedOffset (off : BitVec 8) : Prop :=
  0x28 ≤ off.toNat

/-- An unmapped access names an aligned, unmapped offset; every other instruction has only operands whose
every value its encoding admits. -/
def Instr.wf : Instr → Bool
  | .rdUnmapped off => AlignedOffset off && UnmappedOffset off
  | .wrUnmapped off _ => AlignedOffset off && UnmappedOffset off
  | .rdCtrl | .wrCtrl _ | .rdStatus | .wrStatus _ | .rdFormat | .wrFormat _ | .rdTransform | .wrTransform _
  | .rdCapWidth | .wrCapWidth _ | .rdCapHeight | .wrCapHeight _ | .rdCapPitch | .wrCapPitch _
  | .rdOutWidth | .wrOutWidth _ | .rdOutHeight | .wrOutHeight _ | .rdSinkParam | .wrSinkParam _
  | .cvtRgb565 _ | .cvtRgba4444Rgba | .cvtRgba4444Rgb | .cvtRgb888 _ | .cvtRgba8888Rgba | .cvtRgba8888Rgb
  | .xfQ0 | .xfQ0H | .xfQ0V | .xfQ0Hv | .xfQ1 | .xfQ1H | .xfQ1V | .xfQ1Hv
  | .xfQ2 | .xfQ2H | .xfQ2V | .xfQ2Hv | .xfQ3 | .xfQ3H | .xfQ3V | .xfQ3Hv => true

/-- `i` is an instruction some selector word encodes. -/
abbrev WellFormed (i : Instr) : Prop :=
  i.wf = true

end Sys2Proof
end

