-- ==== Sys2Proof/Decode.lean ====
section
/-! DEFINITION. The three decoders (R69, R70, R71), total on every selector word and refusing by name, the
FORMAT and TRANSFORM field decodes they share with START (R57, R58, R93), and the encoder. -/

namespace Sys2Proof

/-- Why a selector word is no instruction. -/
inductive DecodeError where
  /-- A register access whose offset is no multiple of 4: never issued (R47, R69). -/
  | misalignedOffset (sel : BitVec 9)
  /-- FORMAT is none of 0 to 3 (R57, R70). -/
  | unknownFormat (sel : BitVec 33)
  /-- A reserved TRANSFORM bit is set and the policy is `REJECT` (R59, R71). -/
  | reservedTransformBits (sel : Word)
  deriving DecidableEq, Repr

/-! ### Register fields -/

/-- R57: all 32 bits take part in the match. -/
def formatOfCode (f : Word) : Option PixelFormat :=
  match f with
  | 0#32 => some .rgb565
  | 1#32 => some .rgba4444
  | 2#32 => some .rgb888
  | 3#32 => some .rgba8888
  | _ => none

/-- R58: bits 1:0 of TRANSFORM. -/
def quadrantOf (t : Word) : Fin 4 :=
  Fin.ofNat 4 (t.extractLsb' 0 2).toNat

/-- R58: bit 16 of TRANSFORM. -/
def flipHOf (t : Word) : Bool :=
  t.getLsbD 16

/-- R58: bit 17 of TRANSFORM. -/
def flipVOf (t : Word) : Bool :=
  t.getLsbD 17

/-- R59: `RSV`, the reserved bits of TRANSFORM. -/
def reservedOf (t : Word) : Word :=
  t &&& 0xFFFCFFFC#32

/-! ### The decoders -/

/-- R69 with the register map R16: the read selectors. -/
def decodeRead (off : BitVec 8) : Instr :=
  match off with
  | 0x00#8 => .rdCtrl
  | 0x04#8 => .rdStatus
  | 0x08#8 => .rdFormat
  | 0x0C#8 => .rdTransform
  | 0x10#8 => .rdCapWidth
  | 0x14#8 => .rdCapHeight
  | 0x18#8 => .rdCapPitch
  | 0x1C#8 => .rdOutWidth
  | 0x20#8 => .rdOutHeight
  | 0x24#8 => .rdSinkParam
  | o => .rdUnmapped o

/-- R69 with the register map R16: the write selectors. -/
def decodeWrite (off : BitVec 8) (d : Word) : Instr :=
  match off with
  | 0x00#8 => .wrCtrl d
  | 0x04#8 => .wrStatus d
  | 0x08#8 => .wrFormat d
  | 0x0C#8 => .wrTransform d
  | 0x10#8 => .wrCapWidth d
  | 0x14#8 => .wrCapHeight d
  | 0x18#8 => .wrCapPitch d
  | 0x1C#8 => .wrOutWidth d
  | 0x20#8 => .wrOutHeight d
  | 0x24#8 => .wrSinkParam d
  | o => .wrUnmapped o d

/-- R69: bit 8 is `W`, bits 7:0 the offset. An offset that is no multiple of 4 is never issued (R47). -/
def decodeBus (sel : BitVec 9) (d : Word) : Except DecodeError Instr :=
  let off := sel.extractLsb' 0 8
  if AlignedOffset off then
    .ok (if sel.getLsbD 8 then decodeWrite off d else decodeRead off)
  else .error (.misalignedOffset sel)

/-- R70: bit 32 is `ALPHA_REQ`, bits 31:0 are FORMAT. -/
def decodeCvt (sel : BitVec 33) : Except DecodeError Instr :=
  let a := sel.getLsbD 32
  match formatOfCode (sel.extractLsb' 0 32) with
  | some .rgb565 => .ok (.cvtRgb565 a)
  | some .rgba4444 => .ok (if a then .cvtRgba4444Rgba else .cvtRgba4444Rgb)
  | some .rgb888 => .ok (.cvtRgb888 a)
  | some .rgba8888 => .ok (if a then .cvtRgba8888Rgba else .cvtRgba8888Rgb)
  | none => .error (.unknownFormat sel)

/-- The row of R71 with these `Q`, `H` and `V`. -/
def xformInstr (q : Fin 4) (fh fv : Bool) : Instr :=
  match q, fh, fv with
  | 0, false, false => .xfQ0
  | 0, true, false => .xfQ0H
  | 0, false, true => .xfQ0V
  | 0, true, true => .xfQ0Hv
  | 1, false, false => .xfQ1
  | 1, true, false => .xfQ1H
  | 1, false, true => .xfQ1V
  | 1, true, true => .xfQ1Hv
  | 2, false, false => .xfQ2
  | 2, true, false => .xfQ2H
  | 2, false, true => .xfQ2V
  | 2, true, true => .xfQ2Hv
  | 3, false, false => .xfQ3
  | 3, true, false => .xfQ3H
  | 3, false, true => .xfQ3V
  | 3, true, true => .xfQ3Hv

/-- R59, R71: under `REJECT` a reserved bit makes the word illegal; under `IGNORE` the selector is
`reg(TRANSFORM) & 0x00030003`, so every word selects a row. -/
def decodeXform (policy : ReservedPolicy) (t : Word) : Except DecodeError Instr :=
  if policy = .reject ∧ reservedOf t ≠ 0#32 then .error (.reservedTransformBits t)
  else .ok (xformInstr (quadrantOf t) (flipHOf t) (flipVOf t))

/-- The instruction a selector word stands for, or why it is none. -/
def decode (policy : ReservedPolicy) : Selector → Except DecodeError Instr
  | .bus sel d => decodeBus sel d
  | .cvt sel => decodeCvt sel
  | .xform t => decodeXform policy t

/-! ### The encoder -/

/-- R69: the selector of a read. -/
def encodeRead (off : BitVec 8) : Selector :=
  .bus (0#1 ++ off) 0#32

/-- R69, R75: the selector `0x100 | offset` and the data word of a write. -/
def encodeWrite (off : BitVec 8) (d : Word) : Selector :=
  .bus (1#1 ++ off) d

/-- R70: the conversion selector with this `ALPHA_REQ` and FORMAT. -/
def encodeCvt (alphaReq : Bool) (f : Word) : Selector :=
  .cvt (BitVec.ofBool alphaReq ++ f)

/-- The selector word of each instruction, from the tables of R16, R27, R70 and R71. -/
def encode : Instr → Selector
  | .rdCtrl => encodeRead 0x00#8
  | .wrCtrl d => encodeWrite 0x00#8 d
  | .rdStatus => encodeRead 0x04#8
  | .wrStatus d => encodeWrite 0x04#8 d
  | .rdFormat => encodeRead 0x08#8
  | .wrFormat d => encodeWrite 0x08#8 d
  | .rdTransform => encodeRead 0x0C#8
  | .wrTransform d => encodeWrite 0x0C#8 d
  | .rdCapWidth => encodeRead 0x10#8
  | .wrCapWidth d => encodeWrite 0x10#8 d
  | .rdCapHeight => encodeRead 0x14#8
  | .wrCapHeight d => encodeWrite 0x14#8 d
  | .rdCapPitch => encodeRead 0x18#8
  | .wrCapPitch d => encodeWrite 0x18#8 d
  | .rdOutWidth => encodeRead 0x1C#8
  | .wrOutWidth d => encodeWrite 0x1C#8 d
  | .rdOutHeight => encodeRead 0x20#8
  | .wrOutHeight d => encodeWrite 0x20#8 d
  | .rdSinkParam => encodeRead 0x24#8
  | .wrSinkParam d => encodeWrite 0x24#8 d
  | .rdUnmapped off => encodeRead off
  | .wrUnmapped off d => encodeWrite off d
  | .cvtRgb565 a => encodeCvt a 0#32
  | .cvtRgba4444Rgba => encodeCvt true 1#32
  | .cvtRgba4444Rgb => encodeCvt false 1#32
  | .cvtRgb888 a => encodeCvt a 2#32
  | .cvtRgba8888Rgba => encodeCvt true 3#32
  | .cvtRgba8888Rgb => encodeCvt false 3#32
  | .xfQ0 => .xform 0x00000000#32
  | .xfQ0H => .xform 0x00010000#32
  | .xfQ0V => .xform 0x00020000#32
  | .xfQ0Hv => .xform 0x00030000#32
  | .xfQ1 => .xform 0x00000001#32
  | .xfQ1H => .xform 0x00010001#32
  | .xfQ1V => .xform 0x00020001#32
  | .xfQ1Hv => .xform 0x00030001#32
  | .xfQ2 => .xform 0x00000002#32
  | .xfQ2H => .xform 0x00010002#32
  | .xfQ2V => .xform 0x00020002#32
  | .xfQ2Hv => .xform 0x00030002#32
  | .xfQ3 => .xform 0x00000003#32
  | .xfQ3H => .xform 0x00010003#32
  | .xfQ3V => .xform 0x00020003#32
  | .xfQ3Hv => .xform 0x00030003#32

/-! ### The opcode table's words -/

/-- Which selector map a table word of `nbits` bits belongs to: a row's format shows in its width alone, at most
16 bits (9, in whole bytes) for BUS, at most 32 for XFORM, more (33, in whole bytes) for CVT. A BUS word carries no
data word in the table; it is 0. Assumption 13. -/
def selectorOfTable (nbits w : Nat) : Option Selector :=
  if nbits ≤ 16 then (if w < 2 ^ 9 then some (.bus (BitVec.ofNat 9 w) 0#32) else none)
  else if nbits ≤ 32 then (if w < 2 ^ 32 then some (.xform (BitVec.ofNat 32 w)) else none)
  else (if w < 2 ^ 33 then some (.cvt (BitVec.ofNat 33 w)) else none)

/-- The instruction the decoder reads from a word of spec/opcode_table.json. -/
def decodeTableWord (nbits w : Nat) : Option Instr :=
  match selectorOfTable nbits w with
  | some sel => (decode Config.params.reservedPolicy sel).toOption
  | none => none

end Sys2Proof
end

