-- ==== Sys2Proof/Machine/State.lean ====
section
/-! DEFINITION. The state of the block and of its environment (10_state.md), the reasons a step can stop, and
the state after reset. Plain data throughout. -/

namespace Sys2Proof.Machine

/-- ERR_CODE (R62): codes 8 to 15 are never produced, so they have no constructor. -/
inductive ErrCode where
  | noError
  | badFormat
  | badTransform
  | badDimension
  | badPitch
  | resource
  | sourceError
  | sinkError
deriving DecidableEq, Repr

/-- The fields of STATUS (R18); its reserved bits read 0 and are stored nowhere. -/
structure Status where
  busy : Bool
  done : Bool
  err : Bool
  outRgba : Bool
  errCode : ErrCode
deriving DecidableEq, Repr

/-- The host-writable registers (R16): of CTRL only ALPHA_REQ is stored (R17). -/
structure Regs where
  alphaReq : Bool
  format : Word
  transform : Word
  capWidth : Word
  capHeight : Word
  capPitch : Word
  outWidth : Word
  outHeight : Word
  sinkParam : Word
deriving DecidableEq, Repr

/-- The six conversion operations (R70): the values of `lcfg.op`. -/
inductive CvtOp where
  | rgb565
  | rgba4444Rgba
  | rgba4444Rgb
  | rgb888
  | rgba8888Rgba
  | rgba8888Rgb
deriving DecidableEq, Repr

/-- The latched run configuration `lcfg` (R29), field for field. -/
structure RunConfig where
  fmt : PixelFormat
  q : Fin 4
  fh : Bool
  fv : Bool
  capW : Nat
  capH : Nat
  pitch : Nat
  outW : Nat
  outH : Nat
  alphaOut : Bool
  bpp : Nat
  nch : Nat
  outPitch : Nat
  op : CvtOp
  sinkParam : Word
deriving DecidableEq, Repr

/-- The sequencer's phase (R30). -/
inductive Phase where
  | idle
  | header
  | pixel
  | rowemit
  | final
deriving DecidableEq, Repr

/-- The output colour mode (R83). -/
inductive ColorMode where
  | rgb
  | rgba
deriving DecidableEq, Repr

/-- What the block emits to the sink (R72). -/
inductive SinkEvent where
  | header (width height : Nat) (colorMode : ColorMode) (bitDepth : Nat) (sinkParam : Word)
  | row (row : Nat) (bytes : List Byte)
  | final
deriving DecidableEq, Repr

/-- A collaborator's answer: the sink's ACCEPT (R134) or the source window's OK (R49), or ERROR. -/
inductive Answer where
  | ok
  | error
deriving DecidableEq, Repr

/-- What the last host read returned: the model's own record of the host side of the port. -/
inductive Reply where
  | empty
  | word (v : Word)
  | bytes (bs : List Byte)
deriving DecidableEq, Repr

/-- One step of the schedule: which agent moves next (R6) and what it brings. -/
inductive Turn where
  /-- The host makes the register access with this selector and data word (R69). -/
  | bus (sel : BitVec 9) (data : Word)
  /-- `LOADSRC`: the host writes bytes into SRC (R74). -/
  | loadSrc (off : Nat) (bytes : List Byte)
  /-- `RDOUT`: the host reads bytes of OUT (R74). -/
  | rdOut (off n : Nat)
  /-- The sequencer takes a step; `answer` is what the collaborator it asks in that step answers, a free draw
  (R49, R134), or `none`: no answer is offered. -/
  | seq (answer : Option Answer)
  /-- The platform resets the block (R161). -/
  | reset
deriving DecidableEq, Repr

/-- The wires between the mapper, the memory and the converter inside one PIXEL step (R76, R92). The model's
own: they are `Wires.idle` between steps. -/
structure Wires where
  /-- `(c, r)`, the mapper's result, and the byte offset R101 computes from it. -/
  srcCol : Nat
  srcRow : Nat
  srcOff : Nat
  /-- The converter's operand: the bytes `MemRead` returned. -/
  bytes : List Byte
  /-- The converter's result. -/
  pixel : List Byte
deriving DecidableEq, Repr

/-- No signal on any wire. -/
def Wires.idle : Wires := ⟨0, 0, 0, [], []⟩

/-- A window's contents: strictly rising offsets, one entry for each byte that has been written. -/
abbrev Memory := List Host.Cell

/-- Why the machine stops. None of these is a block error: a block error (R141) is a next state with
STATUS.ERR set. R11's outcome "stuck" is a fault here; the others answer an access or an operand the spec
gives no meaning. -/
inductive Fault where
  /-- Raised by `step`: the schedule is used up, no agent moves (R11 stuck). Safe. -/
  | noTurn
  /-- Raised by a sequencer turn while `phase = IDLE`: no sequencer step is enabled (R139). Safe. -/
  | idleSequencer
  /-- Raised by a sequencer turn with no answer: a HEADER, ROWEMIT or FINAL step is enabled only when the sink
  offers an answer (R134, R171). A PIXEL step without one stops too, by the model's choice: R49 speaks of no silent
  source window (DESIGN CHOICE, Assumption 15). Safe. -/
  | noAnswer
  /-- Raised by a source read or a `LOADSRC` that leaves the SRC window (R31): no such byte exists. Safe. -/
  | srcOutside
  /-- Raised by a pixel write, a row read or an `RDOUT` that leaves the OUT window (R32). Safe. -/
  | outOutside
  /-- Raised by a transform code asked for a pixel outside the output, or under dimensions that break R94:
  the mapper is defined only inside them (R92, R94). Safe. -/
  | mapperDomain
  /-- Raised by a conversion whose operand is not as many bytes as its format has, or whose result is not
  `nch` bytes: never so in the block (R76). Safe. -/
  | converterOperands
deriving DecidableEq, Repr

/-- Why a step has no meaning. Apart from `notModelled`, each is a host action the spec gives no move (R11). -/
inductive Refusal where
  /-- Raised by an arm of `exec` whose instruction has no meaning yet; no arm is one now. Safe. -/
  | notModelled (mnemonic : String)
  /-- Raised by a register access that is no aligned 32-bit word: the model has no move for one (R47). Safe:
  no claim covers such a host. -/
  | noMoveBusSelector (e : DecodeError)
  /-- Raised by `LOADSRC` while BUSY: the model has no move for it (R52, R169). Safe. -/
  | noMoveSrcWriteWhileBusy
  /-- Raised by `RDOUT` while BUSY: the model has no move for it (R52, R170). Safe. -/
  | noMoveOutAccessWhileBusy
deriving DecidableEq, Repr

/-- The block (R14) and its environment. -/
structure State where
  /-- The parameters of this implementation (R7). No step changes them. -/
  cfg : Params
  /-- The host-writable registers (R16). -/
  regs : Regs
  /-- STATUS (R18). -/
  status : Status
  /-- The latched run configuration (R29). -/
  lcfg : RunConfig
  /-- The sequencer (R30): phase, output row, output column. -/
  phase : Phase
  j : Nat
  i : Nat
  /-- The source window (R31). -/
  src : Memory
  /-- The output window (R32). -/
  out : Memory
  /-- The sink event log (R33), oldest first. -/
  log : List (SinkEvent × Answer)
  /-- The model's own: how many resets the block has taken, so that each one draws OUT afresh (R36). -/
  outEpoch : Nat
  /-- The model's own: the wires inside a PIXEL step. -/
  wires : Wires
  /-- The model's own: what the host's last read returned. -/
  reply : Reply
  /-- The model's own: the schedule, which agent moves next (R6, R174). -/
  turns : List Turn
deriving DecidableEq, Repr

/-- R36: every host-writable register is 0. -/
def Regs.reset : Regs where
  alphaReq := false
  format := 0x00000000#32
  transform := 0x00000000#32
  capWidth := 0x00000000#32
  capHeight := 0x00000000#32
  capPitch := 0x00000000#32
  outWidth := 0x00000000#32
  outHeight := 0x00000000#32
  sinkParam := 0x00000000#32

/-- R36: STATUS is 0x00000000. -/
def Status.reset : Status where
  busy := false
  done := false
  err := false
  outRgba := false
  errCode := .noError

/-- R36 leaves `lcfg` arbitrary after reset: the model names the zero configuration. Assumption 7. -/
def RunConfig.reset : RunConfig where
  fmt := .rgb565
  q := 0
  fh := false
  fv := false
  capW := 0
  capH := 0
  pitch := 0
  outW := 0
  outH := 0
  alphaOut := false
  bpp := 0
  nch := 0
  outPitch := 0
  op := .rgb565
  sinkParam := 0#32

/-- The machine right after power-on reset (R36, R162): nothing loaded, nothing emitted, nothing scheduled. -/
def State.reset : State where
  cfg := Config.params
  regs := Regs.reset
  status := Status.reset
  lcfg := RunConfig.reset
  phase := .idle
  j := 0
  i := 0
  src := []
  out := []
  log := []
  outEpoch := 0
  wires := Wires.idle
  reply := .empty
  turns := []

end Sys2Proof.Machine
end

