-- ==== Sys2Proof/Machine/Flags.lean ====
section
/-! DEFINITION. The status flags: how STATUS reads (R18, R61, R62) and every change the rules make to its
fields (R124, R127, R128, R132, R133). -/

namespace Sys2Proof.Machine

/-- R62. -/
def ErrCode.code (e : ErrCode) : BitVec 4 :=
  match e with
  | .noError => 0#4
  | .badFormat => 1#4
  | .badTransform => 2#4
  | .badDimension => 3#4
  | .badPitch => 4#4
  | .resource => 5#4
  | .sourceError => 6#4
  | .sinkError => 7#4

/-- The read data of STATUS (R61): `0[31:12] ERR_CODE 0[7:4] OUT_RGBA ERR DONE BUSY`. -/
def Status.word (st : Status) : Word :=
  0#20 ++ st.errCode.code ++ 0#4 ++ BitVec.ofBool st.outRgba ++ BitVec.ofBool st.err ++
    BitVec.ofBool st.done ++ BitVec.ofBool st.busy

/-- The read data of CTRL (R17): `ALPHA_REQ << 1`, START reads 0. -/
def ctrlReadData (alphaReq : Bool) : Word :=
  0#30 ++ BitVec.ofBool alphaReq ++ 0#1

/-- R124, R152: an accepted START clears DONE, ERR and ERR_CODE. This is the only way out of an error state but
reset: the block's return from an error. -/
def Status.cleared (st : Status) : Status :=
  { st with done := false, err := false, errCode := .noError }

/-- R151: what every error does to STATUS. -/
def Status.errored (e : ErrCode) (st : Status) : Status :=
  { st with busy := false, done := false, err := true, errCode := e }

/-- R127: a refused START also clears OUT_RGBA. -/
def Status.refusedStart (e : ErrCode) (st : Status) : Status :=
  { st.errored e with outRgba := false }

/-- R128: a run begins, its colour mode visible. -/
def Status.begun (rgba : Bool) (st : Status) : Status :=
  { st with busy := true, outRgba := rgba }

/-- R132: the FINAL event was accepted. -/
def Status.finished (st : Status) : Status :=
  { st with busy := false, done := true }

end Sys2Proof.Machine
end

