-- ==== Sys2Proof/Machine/Operands.lean ====
section
/-! DEFINITION. The operand forms: source pixel layouts and channel expansion (R34, R44, R45, R63 to R66,
R77 to R91), the pure conversion, and the orientation mapping (R92 to R101, R118). Pure functions of the
parameters and of `lcfg`. -/

namespace Sys2Proof.Machine

/-! ### Formats (R34, R83) -/

/-- R34: `bpp(fmt)`. -/
def bppOf (fmt : PixelFormat) : Nat :=
  match fmt with
  | .rgb565 => 2
  | .rgba4444 => 2
  | .rgb888 => 3
  | .rgba8888 => 4

/-- R34: `hasAlpha(fmt)`. -/
def hasAlpha (fmt : PixelFormat) : Bool :=
  match fmt with
  | .rgb565 => false
  | .rgba4444 => true
  | .rgb888 => false
  | .rgba8888 => true

/-- R83: `alphaOut`. -/
def alphaOutOf (fmt : PixelFormat) (alphaReq : Bool) : Bool :=
  hasAlpha fmt && alphaReq

/-- R34: `nch`. -/
def nchOf (alphaOut : Bool) : Nat :=
  if alphaOut then 4 else 3

/-- R70: the conversion a run performs. -/
def cvtOpOf (fmt : PixelFormat) (alphaReq : Bool) : CvtOp :=
  match fmt, alphaReq with
  | .rgb565, _ => .rgb565
  | .rgba4444, true => .rgba4444Rgba
  | .rgba4444, false => .rgba4444Rgb
  | .rgb888, _ => .rgb888
  | .rgba8888, true => .rgba8888Rgba
  | .rgba8888, false => .rgba8888Rgb

/-- R83: the colour mode of a run. -/
def colorModeOf (alphaOut : Bool) : ColorMode :=
  if alphaOut then .rgba else .rgb

/-! ### Channel expansion (R77 to R81) -/

/-- R77: `(v << (8 − n)) | (v >> (2n − 8))`, for an `n`-bit channel, `n ≥ 4`. -/
def expandN (n v : Nat) : Byte :=
  BitVec.ofNat 8 ((v <<< (8 - n)) ||| (v >>> (2 * n - 8)))

/-- R78. -/
def expand4 (v : BitVec 4) : Byte := expandN 4 v.toNat

/-- R79. -/
def expand5 (v : BitVec 5) : Byte := expandN 5 v.toNat

/-- R80. -/
def expand6 (v : BitVec 6) : Byte := expandN 6 v.toNat

/-- R81. -/
def expand8 (v : BitVec 8) : Byte := expandN 8 v.toNat

/-! ### Source pixels (R44, R63, R64) -/

/-- R44: the 16-bit pixel word of two bytes. -/
def pix16 (order : ByteOrder) (b0 b1 : Byte) : BitVec 16 :=
  match order with
  | .le => b1 ++ b0
  | .be => b0 ++ b1

/-- R64: `w[4·p + 3 : 4·p]`. -/
def nibble (w : BitVec 16) (p : Fin 4) : BitVec 4 :=
  w.extractLsb' (4 * p.val) 4

/-- R63: `R5 = w[15:11]`, `G6 = w[10:5]`, `B5 = w[4:0]`, expanded. -/
def rgb565Pixel (w : BitVec 16) : List Byte :=
  [expand5 (w.extractLsb' 11 5), expand6 (w.extractLsb' 5 6), expand5 (w.extractLsb' 0 5)]

/-- R64: the four nibbles under `RGBA4444_LAYOUT`, expanded, in the order R, G, B, A (R46). -/
def rgba4444Pixel (l : NibbleLayout) (w : BitVec 16) : List Byte :=
  [expand4 (nibble w l.r), expand4 (nibble w l.g), expand4 (nibble w l.b), expand4 (nibble w l.a)]

/-! ### The conversions (R84 to R89); `none` where the operand has another length than the format's -/

/-- R84. -/
def convertRgb565 (p : Params) (bytes : List Byte) : Option (List Byte) :=
  match bytes with
  | [b0, b1] => some (rgb565Pixel (pix16 p.pix16ByteOrder b0 b1))
  | _ => none

/-- R85. -/
def convertRgba4444Rgba (p : Params) (bytes : List Byte) : Option (List Byte) :=
  match bytes with
  | [b0, b1] => some (rgba4444Pixel p.rgba4444Layout (pix16 p.pix16ByteOrder b0 b1))
  | _ => none

/-- R86: as R85, the alpha channel discarded. -/
def convertRgba4444Rgb (p : Params) (bytes : List Byte) : Option (List Byte) :=
  (convertRgba4444Rgba p bytes).map (List.take 3)

/-- R87. -/
def convertRgb888 (bytes : List Byte) : Option (List Byte) :=
  match bytes with
  | [b0, b1, b2] => some [expand8 b0, expand8 b1, expand8 b2]
  | _ => none

/-- R88. -/
def convertRgba8888Rgba (bytes : List Byte) : Option (List Byte) :=
  match bytes with
  | [b0, b1, b2, b3] => some [expand8 b0, expand8 b1, expand8 b2, expand8 b3]
  | _ => none

/-- R89: byte 3 is read and discarded. -/
def convertRgba8888Rgb (bytes : List Byte) : Option (List Byte) :=
  match bytes with
  | [b0, b1, b2, _] => some [expand8 b0, expand8 b1, expand8 b2]
  | _ => none

/-- R76: `convert(op, bytes)`. -/
def convert (p : Params) (op : CvtOp) (bytes : List Byte) : Option (List Byte) :=
  match op with
  | .rgb565 => convertRgb565 p bytes
  | .rgba4444Rgba => convertRgba4444Rgba p bytes
  | .rgba4444Rgb => convertRgba4444Rgb p bytes
  | .rgb888 => convertRgb888 bytes
  | .rgba8888Rgba => convertRgba8888Rgba bytes
  | .rgba8888Rgb => convertRgba8888Rgb bytes

/-- The opcode-table instruction of a latched conversion. Of the two rows that leave selector bit 32 free the
latched configuration keeps no such bit (R29), and its value has no effect (R84, R87). -/
def cvtInstr (op : CvtOp) : Instr :=
  match op with
  | .rgb565 => .cvtRgb565 false
  | .rgba4444Rgba => .cvtRgba4444Rgba
  | .rgba4444Rgb => .cvtRgba4444Rgb
  | .rgb888 => .cvtRgb888 false
  | .rgba8888Rgba => .cvtRgba8888Rgba
  | .rgba8888Rgb => .cvtRgba8888Rgb

/-! ### The orientation mapping, by composition (R94 to R101) -/

/-- R94: the dimension relation of an even or an odd quadrant. -/
abbrev DimsAgree (odd : Bool) (capW capH outW outH : Nat) : Prop :=
  if odd then capW = outH ∧ capH = outW else capW = outW ∧ capH = outH

/-- R94: quadrants 1 and 3 are odd. -/
def oddQuadrant (q : Fin 4) : Bool :=
  q.val % 2 == 1

/-- R95: the flips, in output coordinates, first. -/
def flipPos (c : RunConfig) (i j : Nat) : Nat × Nat :=
  (if c.fh then c.outW - 1 - i else i, if c.fv then c.outH - 1 - j else j)

/-- R97's formula: the source column axis is reversed. -/
def turnColumn (c : RunConfig) (i' j' : Nat) : Nat × Nat :=
  (c.capW - 1 - j', i')

/-- R99's formula: the source row axis is reversed. -/
def turnRow (c : RunConfig) (i' j' : Nat) : Nat × Nat :=
  (j', c.capH - 1 - i')

/-- R96 to R100: the rotation of flipped coordinates. -/
def rotatePos (sense : RotSense) (c : RunConfig) (i' j' : Nat) : Nat × Nat :=
  match c.q, sense with
  | 0, _ => (i', j')
  | 1, .undoCw => turnColumn c i' j'
  | 1, .applyCw => turnRow c i' j'
  | 2, _ => (c.capW - 1 - i', c.capH - 1 - j')
  | 3, .undoCw => turnRow c i' j'
  | 3, .applyCw => turnColumn c i' j'

/-- R92, R95 to R100: `srcPos(i, j)`, the source column and row of an output pixel. -/
def srcPos (sense : RotSense) (c : RunConfig) (i j : Nat) : Nat × Nat :=
  rotatePos sense c (flipPos c i j).1 (flipPos c i j).2

/-- R101, R39: the byte offset of the captured pixel in column `col` of row `row`. -/
def pixelOffset (c : RunConfig) (col row : Nat) : Nat :=
  row * c.pitch + col * c.bpp

/-- R101: `sourceOffset(i, j)`. -/
def sourceOffset (sense : RotSense) (c : RunConfig) (i j : Nat) : Nat :=
  pixelOffset c (srcPos sense c i j).1 (srcPos sense c i j).2

/-! ### The closed forms of the transform codes (R102 to R118) -/

/-- The eight mappings of R118, classes A to H. -/
inductive MapClass where
  /-- A -/
  | identity
  /-- B -/
  | mirrorLeftRight
  /-- C -/
  | mirrorTopBottom
  /-- D -/
  | halfTurn
  /-- E -/
  | quarterCcw
  /-- F -/
  | transpose
  /-- G -/
  | quarterCw
  /-- H -/
  | antiTranspose
deriving DecidableEq, Repr

/-- R118: `(c, r)` of each class. -/
def classPos (k : MapClass) (c : RunConfig) (i j : Nat) : Nat × Nat :=
  match k with
  | .identity => (i, j)
  | .mirrorLeftRight => (c.capW - 1 - i, j)
  | .mirrorTopBottom => (i, c.capH - 1 - j)
  | .halfTurn => (c.capW - 1 - i, c.capH - 1 - j)
  | .quarterCcw => (c.capW - 1 - j, i)
  | .transpose => (j, i)
  | .quarterCw => (j, c.capH - 1 - i)
  | .antiTranspose => (c.capW - 1 - j, c.capH - 1 - i)

/-- Whether a class swaps the axes (R118): it then belongs to the odd quadrants. -/
def classOdd (k : MapClass) : Bool :=
  match k with
  | .identity | .mirrorLeftRight | .mirrorTopBottom | .halfTurn => false
  | .quarterCcw | .transpose | .quarterCw | .antiTranspose => true

/-- R118: under `APPLY_CW` the code lists of classes E and G swap, and so do those of F and H. -/
def senseClass (sense : RotSense) (k : MapClass) : MapClass :=
  match sense, k with
  | .applyCw, .quarterCcw => .quarterCw
  | .applyCw, .quarterCw => .quarterCcw
  | .applyCw, .transpose => .antiTranspose
  | .applyCw, .antiTranspose => .transpose
  | _, k => k

/-- Where the mapper is defined: an output pixel (R92), under the dimension relation (R94). -/
abbrev MapDomain (odd : Bool) (c : RunConfig) (i j : Nat) : Prop :=
  i < c.outW ∧ j < c.outH ∧ DimsAgree odd c.capW c.capH c.outW c.outH

end Sys2Proof.Machine
end

