-- ==== Sys2Proof/Machine/Ops.lean ====
section
/-! DEFINITION. The named operations: the windows (R49, R50), the state updates, the host's register port, the
sink port (R134), the configuration check and START (R124 to R128), and entering an error (R151). -/

namespace Sys2Proof.Machine

/-! ### A window's contents -/

/-- The byte written at an offset, if one was: an unlisted offset holds no written byte. -/
def Memory.read? (m : Memory) (a : Nat) : Option Byte :=
  match m with
  | [] => none
  | (b, v) :: t => if b = a then some v else Memory.read? t a

/-- Write one byte, keeping the offsets strictly rising. -/
def Memory.write (m : Memory) (a : Nat) (v : Byte) : Memory :=
  match m with
  | [] => [(a, v)]
  | (b, w) :: t =>
    if a < b then (a, v) :: (b, w) :: t
    else if a = b then (a, v) :: t
    else (b, w) :: Memory.write t a v

/-- Write consecutive bytes, lowest offset first. -/
def Memory.writeBytes (m : Memory) (a : Nat) (bs : List Byte) : Memory :=
  match bs with
  | [] => m
  | v :: t => Memory.writeBytes (m.write a v) (a + 1) t

/-- The canonical form: offsets strictly rising. An unlisted offset reads as "no byte written", which no entry
holds, so equal contents are equal data. -/
abbrev Memory.wf (m : Memory) : Prop :=
  (m.map Prod.fst).Pairwise (· < ·)

/-- Every offset lies in a window of `n` bytes. -/
abbrev Memory.Within (m : Memory) (n : Nat) : Prop :=
  ∀ cell ∈ m, cell.1 < n

/-! ### Updates of the state -/

def State.setRegs (s : State) (r : Regs) : State := { s with regs := r }

def State.setStatus (s : State) (st : Status) : State := { s with status := st }

def State.setLcfg (s : State) (c : RunConfig) : State := { s with lcfg := c }

/-- Move the sequencer (R30). -/
def State.setSeq (s : State) (ph : Phase) (j i : Nat) : State := { s with phase := ph, j := j, i := i }

def State.setSrc (s : State) (m : Memory) : State := { s with src := m }

def State.setOut (s : State) (m : Memory) : State := { s with out := m }

def State.setWires (s : State) (w : Wires) : State := { s with wires := w }

def State.setReply (s : State) (r : Reply) : State := { s with reply := r }

def State.setTurns (s : State) (ts : List Turn) : State := { s with turns := ts }

/-- R134: the pair of event and answer goes to the end of the sink log. -/
def State.emit (s : State) (ev : SinkEvent) (a : Answer) : State := { s with log := s.log ++ [(ev, a)] }

/-! ### The windows -/

/-- The byte at an offset of SRC: what the host put there, or any value (R31, R38). -/
def State.srcByte (s : State) (a : Nat) : Byte :=
  (s.src.read? a).getD (Config.srcFreeByte a)

/-- The byte at an offset of OUT: what a run wrote since the last reset, or any value (R32, R36, R53). -/
def State.outByte (s : State) (a : Nat) : Byte :=
  (s.out.read? a).getD (Config.outFreeByte s.outEpoch a)

/-- R49: the bytes of `MemRead(SRC, off, n)`; `none` where the window has no such bytes. The source window's
answer OK or ERROR is the caller's to look at. -/
def State.memRead (s : State) (off n : Nat) : Option (List Byte) :=
  if off + n ≤ s.cfg.srcWindowBytes then some ((List.range n).map fun k => s.srcByte (off + k)) else none

/-- `n` bytes of OUT from `off` (R72, R74); `none` where the window has no such bytes. -/
def State.outRange (s : State) (off n : Nat) : Option (List Byte) :=
  if off + n ≤ s.cfg.outWindowBytes then some ((List.range n).map fun k => s.outByte (off + k)) else none

/-- R50: the byte writes of one pixel, one step's effect; `none` where the window has no such bytes. -/
def State.memWrite (s : State) (off : Nat) (bs : List Byte) : Option State :=
  if off + bs.length ≤ s.cfg.outWindowBytes then some (s.setOut (s.out.writeBytes off bs)) else none

/-! ### Errors (R151) -/

/-- R151, R133: entering a block error during a run: `phase` becomes IDLE and STATUS holds the code. There is no
vector, no saved program counter and no mode. -/
def State.enterError (s : State) (e : ErrCode) : State :=
  (s.setStatus (s.status.errored e)).setSeq .idle s.j s.i

/-- R127: a START refused by its check. -/
def State.failStart (s : State) (e : ErrCode) : State :=
  s.setStatus (s.status.refusedStart e)

/-! ### START (R124 to R128) -/

/-- R125 step 2. -/
abbrev BadTransform (p : Params) (r : Regs) : Prop :=
  p.reservedPolicy = .reject ∧ reservedOf r.transform ≠ 0#32

/-- R125 step 3, R144. -/
abbrev BadDimension (r : Regs) : Prop :=
  r.capWidth = 0#32 ∨ r.capHeight = 0#32 ∨ r.outWidth = 0#32 ∨ r.outHeight = 0#32 ∨
    ¬ DimsAgree (oddQuadrant (quadrantOf r.transform)) r.capWidth.toNat r.capHeight.toNat
        r.outWidth.toNat r.outHeight.toNat

/-- R145: the alignment that `PITCH_ALIGN_CHECK` asks of a pitch. -/
def pitchAligned (p : Params) (bpp pitch : Nat) : Bool :=
  match p.pitchAlignCheck with
  | .noCheck => true
  | .bytes16 => pitch % 16 == 0
  | .bpp16 => pitch % (16 * bpp) == 0

/-- R125: the configuration errors in their fixed order; `noError` is the rule's NONE. -/
def checkConfig (p : Params) (r : Regs) : ErrCode :=
  match formatOfCode r.format with
  | none => .badFormat
  | some fmt =>
    if BadTransform p r then .badTransform
    else if BadDimension r then .badDimension
    else if r.capPitch.toNat < bppOf fmt * r.capWidth.toNat then .badPitch
    else if !pitchAligned p (bppOf fmt) r.capPitch.toNat then .badPitch
    else if r.capPitch.toNat * r.capHeight.toNat > p.srcWindowBytes then .resource
    else if nchOf (alphaOutOf fmt r.alphaReq) * r.outWidth.toNat * r.outHeight.toNat > p.outWindowBytes then .resource
    else .noError

/-- R126, R29: the configuration latched from the registers, for the format FORMAT names. -/
def latchConfig (fmt : PixelFormat) (r : Regs) : RunConfig where
  fmt := fmt
  q := quadrantOf r.transform
  fh := flipHOf r.transform
  fv := flipVOf r.transform
  capW := r.capWidth.toNat
  capH := r.capHeight.toNat
  pitch := r.capPitch.toNat
  outW := r.outWidth.toNat
  outH := r.outHeight.toNat
  alphaOut := alphaOutOf fmt r.alphaReq
  bpp := bppOf fmt
  nch := nchOf (alphaOutOf fmt r.alphaReq)
  outPitch := nchOf (alphaOutOf fmt r.alphaReq) * r.outWidth.toNat
  op := cvtOpOf fmt r.alphaReq
  sinkParam := r.sinkParam

/-- R128: a run begins with the configuration just latched. -/
def State.beginRun (s : State) : State :=
  (s.setStatus (s.status.begun s.lcfg.alphaOut)).setSeq .header 0 0

/-- R124: START accepted while not BUSY: clear the flags, check, then refuse or latch and begin. -/
def State.start (s : State) : State :=
  let s0 := s.setStatus s.status.cleared
  match checkConfig s.cfg s.regs, formatOfCode s.regs.format with
  | .noError, some fmt => (s0.setLcfg (latchConfig fmt s.regs)).beginRun
  | e, _ => s0.failStart e

/-- R124: a host write of `d` to CTRL, one atomic step. -/
def State.writeCtrl (s : State) (d : Word) : State :=
  let s0 := s.setRegs { s.regs with alphaReq := d.getLsbD 1 }
  if d.getLsbD 0 then (if s0.status.busy then s0 else s0.start) else s0

/-! ### The host's register port -/

/-- A host read returns `v` and does nothing else (R47). -/
def State.busReply (s : State) (v : Word) : State :=
  s.setReply (.word v)

/-! ### The mapper and the converter as parts of a step -/

/-- R92, R101: a transform code's class puts the source position of the current pixel and its byte offset on the
mapper's wires. -/
def runMapper (k : MapClass) (s : State) : Host.Outcome State Fault Refusal :=
  if MapDomain (classOdd k) s.lcfg s.i s.j then
    let pos := classPos k s.lcfg s.i s.j
    .next (s.setWires { s.wires with
      srcCol := pos.1, srcRow := pos.2, srcOff := pixelOffset s.lcfg pos.1 pos.2 })
  else .fault .mapperDomain

/-- R76: a conversion puts the converted pixel of its operand bytes on the converter's wires. -/
def runConverter (f : List Byte → Option (List Byte)) (s : State) : Host.Outcome State Fault Refusal :=
  match f s.wires.bytes with
  | some px => .next (s.setWires { s.wires with pixel := px })
  | none => .fault .converterOperands

/-! ### Sequencing -/

/-- Go on with `f` where the first part answered a next state; stop where it stopped. -/
def andThen (o : Host.Outcome State Fault Refusal)
    (f : State → Host.Outcome State Fault Refusal) : Host.Outcome State Fault Refusal :=
  match o with
  | .next s => f s
  | .fault r => .fault r
  | .refused r => .refused r

end Sys2Proof.Machine
end

