-- ==== Sys2Proof/Machine/Bus.lean ====
section
/-! DEFINITION. The meanings of the 22 host register accesses (R16 to R27, R69, R124). Every access is one host
step; a read returns its value to the host and changes nothing else (R47), a configuration write takes effect
at once and never touches the run in progress (R16, R28). -/

namespace Sys2Proof.Machine

/-- RD CTRL (R17): `ALPHA_REQ << 1`. -/
def execRdCtrl (s : State) : Host.Outcome State Fault Refusal :=
  .next (s.busReply (ctrlReadData s.regs.alphaReq))

/-- WR CTRL (R17, R124): store ALPHA_REQ and, with bit 0 set, START. -/
def execWrCtrl (d : Word) (s : State) : Host.Outcome State Fault Refusal :=
  .next (s.writeCtrl d)

/-- RD STATUS (R18, R61): the fields as they stand; a read clears nothing. -/
def execRdStatus (s : State) : Host.Outcome State Fault Refusal :=
  .next (s.busReply s.status.word)

/-- WR STATUS (R18): read-only, the write is ignored. -/
def execWrStatus (_d : Word) (s : State) : Host.Outcome State Fault Refusal :=
  .next s

/-- RD FORMAT (R19): the stored value. -/
def execRdFormat (s : State) : Host.Outcome State Fault Refusal :=
  .next (s.busReply s.regs.format)

/-- WR FORMAT (R19): all 32 bits are stored. -/
def execWrFormat (d : Word) (s : State) : Host.Outcome State Fault Refusal :=
  .next (s.setRegs { s.regs with format := d })

/-- RD TRANSFORM (R20): the stored value. -/
def execRdTransform (s : State) : Host.Outcome State Fault Refusal :=
  .next (s.busReply s.regs.transform)

/-- WR TRANSFORM (R20): all 32 bits are stored. -/
def execWrTransform (d : Word) (s : State) : Host.Outcome State Fault Refusal :=
  .next (s.setRegs { s.regs with transform := d })

/-- RD CAP_WIDTH (R21): the stored value. -/
def execRdCapWidth (s : State) : Host.Outcome State Fault Refusal :=
  .next (s.busReply s.regs.capWidth)

/-- WR CAP_WIDTH (R21): all 32 bits are stored. -/
def execWrCapWidth (d : Word) (s : State) : Host.Outcome State Fault Refusal :=
  .next (s.setRegs { s.regs with capWidth := d })

/-- RD CAP_HEIGHT (R22): the stored value. -/
def execRdCapHeight (s : State) : Host.Outcome State Fault Refusal :=
  .next (s.busReply s.regs.capHeight)

/-- WR CAP_HEIGHT (R22): all 32 bits are stored. -/
def execWrCapHeight (d : Word) (s : State) : Host.Outcome State Fault Refusal :=
  .next (s.setRegs { s.regs with capHeight := d })

/-- RD CAP_PITCH (R23): the stored value. -/
def execRdCapPitch (s : State) : Host.Outcome State Fault Refusal :=
  .next (s.busReply s.regs.capPitch)

/-- WR CAP_PITCH (R23): all 32 bits are stored. -/
def execWrCapPitch (d : Word) (s : State) : Host.Outcome State Fault Refusal :=
  .next (s.setRegs { s.regs with capPitch := d })

/-- RD OUT_WIDTH (R24): the stored value. -/
def execRdOutWidth (s : State) : Host.Outcome State Fault Refusal :=
  .next (s.busReply s.regs.outWidth)

/-- WR OUT_WIDTH (R24): all 32 bits are stored. -/
def execWrOutWidth (d : Word) (s : State) : Host.Outcome State Fault Refusal :=
  .next (s.setRegs { s.regs with outWidth := d })

/-- RD OUT_HEIGHT (R25): the stored value. -/
def execRdOutHeight (s : State) : Host.Outcome State Fault Refusal :=
  .next (s.busReply s.regs.outHeight)

/-- WR OUT_HEIGHT (R25): all 32 bits are stored. -/
def execWrOutHeight (d : Word) (s : State) : Host.Outcome State Fault Refusal :=
  .next (s.setRegs { s.regs with outHeight := d })

/-- RD SINK_PARAM (R26): the stored value. -/
def execRdSinkParam (s : State) : Host.Outcome State Fault Refusal :=
  .next (s.busReply s.regs.sinkParam)

/-- WR SINK_PARAM (R26): all 32 bits are stored. -/
def execWrSinkParam (d : Word) (s : State) : Host.Outcome State Fault Refusal :=
  .next (s.setRegs { s.regs with sinkParam := d })

/-- RD of an unmapped offset (R27): 0x00000000. -/
def execRdUnmapped (_off : BitVec 8) (s : State) : Host.Outcome State Fault Refusal :=
  .next (s.busReply 0x00000000#32)

/-- WR to an unmapped offset (R27): ignored. -/
def execWrUnmapped (_off : BitVec 8) (_d : Word) (s : State) : Host.Outcome State Fault Refusal :=
  .next s

end Sys2Proof.Machine
end

