-- ==== Sys2Proof/Machine/Converter.lean ====
section
/-! DEFINITION. The meanings of the six pixel conversions (R84 to R89): each takes the bytes one `MemRead` put on
the converter's wires to the output pixel. No flag is written and no error raised (R76). -/

namespace Sys2Proof.Machine

/-- CVT_RGB565 (R84): an alpha request has no effect. -/
def execCvtRgb565 (_alphaReq : Bool) (s : State) : Host.Outcome State Fault Refusal :=
  runConverter (convertRgb565 s.cfg) s

/-- CVT_RGBA4444_RGBA (R85). -/
def execCvtRgba4444Rgba (s : State) : Host.Outcome State Fault Refusal :=
  runConverter (convertRgba4444Rgba s.cfg) s

/-- CVT_RGBA4444_RGB (R86). -/
def execCvtRgba4444Rgb (s : State) : Host.Outcome State Fault Refusal :=
  runConverter (convertRgba4444Rgb s.cfg) s

/-- CVT_RGB888 (R87): an alpha request has no effect. -/
def execCvtRgb888 (_alphaReq : Bool) (s : State) : Host.Outcome State Fault Refusal :=
  runConverter convertRgb888 s

/-- CVT_RGBA8888_RGBA (R88). -/
def execCvtRgba8888Rgba (s : State) : Host.Outcome State Fault Refusal :=
  runConverter convertRgba8888Rgba s

/-- CVT_RGBA8888_RGB (R89). -/
def execCvtRgba8888Rgb (s : State) : Host.Outcome State Fault Refusal :=
  runConverter convertRgba8888Rgb s

end Sys2Proof.Machine
end

