-- ==== Sys2Proof/Machine/Mapper.lean ====
section
/-! DEFINITION. The meanings of the 16 transform codes (R102 to R117): each puts the source position of the
sequencer's current pixel `(i, j)` on the mapper's wires. The class named is the one the code's rule gives for
`ROT_SENSE = UNDO_CW`; `senseClass` takes it to `APPLY_CW` (R100, R118). -/

namespace Sys2Proof.Machine

/-- XF_Q0 (R102), class A: `c = i, r = j`. -/
def execXfQ0 (s : State) : Host.Outcome State Fault Refusal :=
  runMapper (senseClass s.cfg.rotSense .identity) s

/-- XF_Q0_H (R103), class B: `c = Wc − 1 − i, r = j`. -/
def execXfQ0H (s : State) : Host.Outcome State Fault Refusal :=
  runMapper (senseClass s.cfg.rotSense .mirrorLeftRight) s

/-- XF_Q0_V (R104), class C: `c = i, r = Hc − 1 − j`. -/
def execXfQ0V (s : State) : Host.Outcome State Fault Refusal :=
  runMapper (senseClass s.cfg.rotSense .mirrorTopBottom) s

/-- XF_Q0_HV (R105), class D: `c = Wc − 1 − i, r = Hc − 1 − j`. -/
def execXfQ0Hv (s : State) : Host.Outcome State Fault Refusal :=
  runMapper (senseClass s.cfg.rotSense .halfTurn) s

/-- XF_Q1 (R106), class E: `c = Wc − 1 − j, r = i`. -/
def execXfQ1 (s : State) : Host.Outcome State Fault Refusal :=
  runMapper (senseClass s.cfg.rotSense .quarterCcw) s

/-- XF_Q1_H (R107), class H: `c = Wc − 1 − j, r = Hc − 1 − i`. -/
def execXfQ1H (s : State) : Host.Outcome State Fault Refusal :=
  runMapper (senseClass s.cfg.rotSense .antiTranspose) s

/-- XF_Q1_V (R108), class F: `c = j, r = i`. -/
def execXfQ1V (s : State) : Host.Outcome State Fault Refusal :=
  runMapper (senseClass s.cfg.rotSense .transpose) s

/-- XF_Q1_HV (R109), class G: `c = j, r = Hc − 1 − i`. -/
def execXfQ1Hv (s : State) : Host.Outcome State Fault Refusal :=
  runMapper (senseClass s.cfg.rotSense .quarterCw) s

/-- XF_Q2 (R110), class D: `c = Wc − 1 − i, r = Hc − 1 − j`. -/
def execXfQ2 (s : State) : Host.Outcome State Fault Refusal :=
  runMapper (senseClass s.cfg.rotSense .halfTurn) s

/-- XF_Q2_H (R111), class C: `c = i, r = Hc − 1 − j`. -/
def execXfQ2H (s : State) : Host.Outcome State Fault Refusal :=
  runMapper (senseClass s.cfg.rotSense .mirrorTopBottom) s

/-- XF_Q2_V (R112), class B: `c = Wc − 1 − i, r = j`. -/
def execXfQ2V (s : State) : Host.Outcome State Fault Refusal :=
  runMapper (senseClass s.cfg.rotSense .mirrorLeftRight) s

/-- XF_Q2_HV (R113), class A: `c = i, r = j`. -/
def execXfQ2Hv (s : State) : Host.Outcome State Fault Refusal :=
  runMapper (senseClass s.cfg.rotSense .identity) s

/-- XF_Q3 (R114), class G: `c = j, r = Hc − 1 − i`. -/
def execXfQ3 (s : State) : Host.Outcome State Fault Refusal :=
  runMapper (senseClass s.cfg.rotSense .quarterCw) s

/-- XF_Q3_H (R115), class F: `c = j, r = i`. -/
def execXfQ3H (s : State) : Host.Outcome State Fault Refusal :=
  runMapper (senseClass s.cfg.rotSense .transpose) s

/-- XF_Q3_V (R116), class H: `c = Wc − 1 − j, r = Hc − 1 − i`. -/
def execXfQ3V (s : State) : Host.Outcome State Fault Refusal :=
  runMapper (senseClass s.cfg.rotSense .antiTranspose) s

/-- XF_Q3_HV (R117), class E: `c = Wc − 1 − j, r = i`. -/
def execXfQ3Hv (s : State) : Host.Outcome State Fault Refusal :=
  runMapper (senseClass s.cfg.rotSense .quarterCcw) s

end Sys2Proof.Machine
end

