-- ==== Sys2Proof/Machine/Dispatch.lean ====
section
/-! DEFINITION. One arm per instruction, each one call of its meaning. -/

namespace Sys2Proof.Machine

def exec (i : Instr) (s : State) : Host.Outcome State Fault Refusal :=
  match i with
  | .rdCtrl => Sys2Proof.Machine.execRdCtrl s
  | .wrCtrl d => Sys2Proof.Machine.execWrCtrl d s
  | .rdStatus => Sys2Proof.Machine.execRdStatus s
  | .wrStatus d => Sys2Proof.Machine.execWrStatus d s
  | .rdFormat => Sys2Proof.Machine.execRdFormat s
  | .wrFormat d => Sys2Proof.Machine.execWrFormat d s
  | .rdTransform => Sys2Proof.Machine.execRdTransform s
  | .wrTransform d => Sys2Proof.Machine.execWrTransform d s
  | .rdCapWidth => Sys2Proof.Machine.execRdCapWidth s
  | .wrCapWidth d => Sys2Proof.Machine.execWrCapWidth d s
  | .rdCapHeight => Sys2Proof.Machine.execRdCapHeight s
  | .wrCapHeight d => Sys2Proof.Machine.execWrCapHeight d s
  | .rdCapPitch => Sys2Proof.Machine.execRdCapPitch s
  | .wrCapPitch d => Sys2Proof.Machine.execWrCapPitch d s
  | .rdOutWidth => Sys2Proof.Machine.execRdOutWidth s
  | .wrOutWidth d => Sys2Proof.Machine.execWrOutWidth d s
  | .rdOutHeight => Sys2Proof.Machine.execRdOutHeight s
  | .wrOutHeight d => Sys2Proof.Machine.execWrOutHeight d s
  | .rdSinkParam => Sys2Proof.Machine.execRdSinkParam s
  | .wrSinkParam d => Sys2Proof.Machine.execWrSinkParam d s
  | .rdUnmapped off => Sys2Proof.Machine.execRdUnmapped off s
  | .wrUnmapped off d => Sys2Proof.Machine.execWrUnmapped off d s
  | .cvtRgb565 a => Sys2Proof.Machine.execCvtRgb565 a s
  | .cvtRgba4444Rgba => Sys2Proof.Machine.execCvtRgba4444Rgba s
  | .cvtRgba4444Rgb => Sys2Proof.Machine.execCvtRgba4444Rgb s
  | .cvtRgb888 a => Sys2Proof.Machine.execCvtRgb888 a s
  | .cvtRgba8888Rgba => Sys2Proof.Machine.execCvtRgba8888Rgba s
  | .cvtRgba8888Rgb => Sys2Proof.Machine.execCvtRgba8888Rgb s
  | .xfQ0 => Sys2Proof.Machine.execXfQ0 s
  | .xfQ0H => Sys2Proof.Machine.execXfQ0H s
  | .xfQ0V => Sys2Proof.Machine.execXfQ0V s
  | .xfQ0Hv => Sys2Proof.Machine.execXfQ0Hv s
  | .xfQ1 => Sys2Proof.Machine.execXfQ1 s
  | .xfQ1H => Sys2Proof.Machine.execXfQ1H s
  | .xfQ1V => Sys2Proof.Machine.execXfQ1V s
  | .xfQ1Hv => Sys2Proof.Machine.execXfQ1Hv s
  | .xfQ2 => Sys2Proof.Machine.execXfQ2 s
  | .xfQ2H => Sys2Proof.Machine.execXfQ2H s
  | .xfQ2V => Sys2Proof.Machine.execXfQ2V s
  | .xfQ2Hv => Sys2Proof.Machine.execXfQ2Hv s
  | .xfQ3 => Sys2Proof.Machine.execXfQ3 s
  | .xfQ3H => Sys2Proof.Machine.execXfQ3H s
  | .xfQ3V => Sys2Proof.Machine.execXfQ3V s
  | .xfQ3Hv => Sys2Proof.Machine.execXfQ3Hv s

end Sys2Proof.Machine
end

