-- ==== Sys2Proof/Machine/Sequencer.lean ====
section
/-! DEFINITION. The sequencer's four steps (R129 to R132), the abort (R133), and the turns of the other agents:
the host's window accesses (R74) and the platform's reset (R162). -/

namespace Sys2Proof.Machine

/-! ### The instructions a run's latched configuration selects -/

/-- The transform code of the latched orientation (R71, R93). -/
def State.xformInstr (s : State) : Instr :=
  Sys2Proof.xformInstr s.lcfg.q s.lcfg.fh s.lcfg.fv

/-- The conversion of the latched operation (R29, R70). -/
def State.cvtInstr (s : State) : Instr :=
  Sys2Proof.Machine.cvtInstr s.lcfg.op

/-! ### HEADER (R129) -/

/-- R72: the header of the run. -/
def headerEvent (c : RunConfig) : SinkEvent :=
  .header c.outW c.outH (colorModeOf c.alphaOut) 8 c.sinkParam

/-- R129, with the sink's answer. -/
def headerStep (a : Answer) (s : State) : State :=
  let s1 := s.emit (headerEvent s.lcfg) a
  match a with
  | .ok => s1.setSeq .pixel s.j s.i
  | .error => s1.enterError .sinkError

/-! ### PIXEL (R130) -/

/-- R42, R130: where channel 0 of the current output pixel goes. -/
def State.outOffset (s : State) : Nat :=
  s.j * s.lcfg.outPitch + s.i * s.lcfg.nch

/-- R130: the next column, or the row is complete and `i` stays. -/
def State.advancePixel (s : State) : State :=
  if s.i + 1 < s.lcfg.outW then s.setSeq .pixel s.j (s.i + 1) else s.setSeq .rowemit s.j s.i

/-- R130: the converted pixel goes from the wires to OUT, and the sequencer moves on. -/
def writePixel (s : State) : Host.Outcome State Fault Refusal :=
  if s.wires.pixel.length = s.lcfg.nch then
    match s.memWrite s.outOffset s.wires.pixel with
    | some s1 => .next ((s1.setWires Wires.idle).advancePixel)
    | none => .fault .outOutside
  else .fault .converterOperands

/-- R130: the source window's answer to the read, then the conversion of the bytes read. -/
def readPixel (a : Answer) (s : State) : Host.Outcome State Fault Refusal :=
  match s.memRead s.wires.srcOff s.lcfg.bpp with
  | none => .fault .srcOutside
  | some bs =>
    match a with
    | .error => .next ((s.setWires Wires.idle).enterError .sourceError)
    | .ok => andThen (exec s.cvtInstr (s.setWires { s.wires with bytes := bs })) writePixel

/-- R130: the run's transform code gives the source offset, then the read, the run's conversion, the write. One
step, at most one memory read (R51). -/
def pixelStep (a : Answer) (s : State) : Host.Outcome State Fault Refusal :=
  andThen (exec s.xformInstr s) (readPixel a)

/-! ### ROWEMIT (R131) -/

/-- R131: after row `j` was accepted. -/
def State.advanceRow (s : State) : State :=
  if s.j + 1 < s.lcfg.outH then s.setSeq .pixel (s.j + 1) 0 else s.setSeq .final s.j s.i

/-- R131, with the sink's answer: the whole row leaves the block in one event. -/
def rowemitStep (a : Answer) (s : State) : Host.Outcome State Fault Refusal :=
  match s.outRange (s.j * s.lcfg.outPitch) s.lcfg.outPitch with
  | none => .fault .outOutside
  | some bytes =>
    let s1 := s.emit (.row s.j bytes) a
    match a with
    | .ok => .next s1.advanceRow
    | .error => .next (s1.enterError .sinkError)

/-! ### FINAL (R132) -/

/-- R132, with the sink's answer. -/
def finalStep (a : Answer) (s : State) : State :=
  let s1 := s.emit .final a
  match a with
  | .ok => (s1.setStatus s1.status.finished).setSeq .idle s.j s.i
  | .error => s1.enterError .sinkError

/-! ### One sequencer step -/

/-- The rule `phase` selects, once an answer is there. -/
def phaseStep (a : Answer) (s : State) : Host.Outcome State Fault Refusal :=
  match s.phase with
  | .idle => .fault .idleSequencer
  | .header => .next (headerStep a s)
  | .pixel => pixelStep a s
  | .rowemit => rowemitStep a s
  | .final => .next (finalStep a s)

/-- A sequencer turn: not enabled while IDLE (R139), nor while no answer is offered (R134, R171). -/
def sequencerTurn (answer : Option Answer) (s : State) : Host.Outcome State Fault Refusal :=
  match s.phase, answer with
  | .idle, _ => .fault .idleSequencer
  | _, none => .fault .noAnswer
  | _, some a => phaseStep a s

/-! ### The host and the platform -/

/-- A register access: the selector is decoded and the instruction run (R69). A selector that is none is a host
action without a move (R47). -/
def busTurn (sel : BitVec 9) (d : Word) (s : State) : Host.Outcome State Fault Refusal :=
  match decodeBus sel d with
  | .ok i => exec i s
  | .error e => .refused (.noMoveBusSelector e)

/-- `LOADSRC` (R74): only while no run is in progress (R52), only into the window (R31). -/
def loadSrcTurn (off : Nat) (bytes : List Byte) (s : State) : Host.Outcome State Fault Refusal :=
  if s.status.busy then .refused .noMoveSrcWriteWhileBusy
  else if off + bytes.length ≤ s.cfg.srcWindowBytes then .next (s.setSrc (s.src.writeBytes off bytes))
  else .fault .srcOutside

/-- `RDOUT` (R74): only while no run is in progress (R52), only inside the window (R32). -/
def rdOutTurn (off n : Nat) (s : State) : Host.Outcome State Fault Refusal :=
  if s.status.busy then .refused .noMoveOutAccessWhileBusy
  else
    match s.outRange off n with
    | some bs => .next (s.setReply (.bytes bs))
    | none => .fault .outOutside

/-- R36, R162: one reset transition. Every register is 0 and `phase` is IDLE; OUT is drawn afresh; SRC, the sink
log, the parameters and what is outside the block stay. -/
def applyReset (s : State) : State :=
  { State.reset with
    cfg := s.cfg
    src := s.src
    log := s.log
    outEpoch := s.outEpoch + 1
    reply := s.reply
    turns := s.turns }

/-- One turn of the schedule (R6). -/
def runTurn (t : Turn) (s : State) : Host.Outcome State Fault Refusal :=
  match t with
  | .bus sel d => busTurn sel d s
  | .loadSrc off bytes => loadSrcTurn off bytes s
  | .rdOut off n => rdOutTurn off n s
  | .seq answer => sequencerTurn answer s
  | .reset => .next (applyReset s)

/-! ### Placing one instruction for the next step -/

/-- A run of one pixel in its PIXEL phase under this configuration, its source read answered OK by the next
turn, in windows that hold at least that pixel. Assumption 14. -/
def State.placeRun (s : State) (c : RunConfig) : State :=
  { s with
    cfg := { s.cfg with
      srcWindowBytes := s.cfg.srcWindowBytes + 4
      outWindowBytes := s.cfg.outWindowBytes + 4 }
    status := Status.begun c.alphaOut s.status.cleared
    lcfg := c
    phase := .pixel
    j := 0
    i := 0
    turns := .seq (some .ok) :: s.turns }

/-- The registers of a one-pixel run with this ALPHA_REQ, FORMAT and TRANSFORM. -/
def onePixelRegs (alphaReq : Bool) (format transform : Word) : Regs where
  alphaReq := alphaReq
  format := format
  transform := transform
  capWidth := 1#32
  capHeight := 1#32
  capPitch := 4#32
  outWidth := 1#32
  outHeight := 1#32
  sinkParam := 0#32

/-- The state whose next step runs the instruction of this selector: a register access is the next turn; a
conversion or a transform code is selected by the latched configuration of a run in its PIXEL phase. A word
that selects nothing places nothing. -/
def State.placeSelector (s : State) (sel : Selector) : State :=
  match sel with
  | .bus sel d => s.setTurns (.bus sel d :: s.turns)
  | .cvt sel =>
    match formatOfCode (sel.extractLsb' 0 32) with
    | some fmt => s.placeRun (latchConfig fmt (onePixelRegs (sel.getLsbD 32) (sel.extractLsb' 0 32) 0#32))
    | none => s
  | .xform t => s.placeRun (latchConfig .rgb565 (onePixelRegs false 0#32 t))

end Sys2Proof.Machine
end

