-- ==== Sys2Proof/Machine/Step.lean ====
section
/-! DEFINITION. One step of the machine: the next turn of the schedule (R6, R174). -/

namespace Sys2Proof.Machine

/-- Exactly one agent takes one step (R6). With no turn left no agent moves: stuck (R11). -/
def step (s : State) : Host.Outcome State Fault Refusal :=
  match s.turns with
  | [] => .fault .noTurn
  | t :: rest => runTurn t (s.setTurns rest)

/-- `s` with the instruction of that opcode-table word placed for its next step. Assumptions 13 and 14. -/
def State.withFetchWord (s : State) (nbits w : Nat) : State :=
  match selectorOfTable nbits w with
  | some sel => s.placeSelector sel
  | none => s

end Sys2Proof.Machine
end

