-- ==== Sys2Proof/Safety.lean ====
section
/-! DEFINITION. What a good state and a good run are, in the terms claims use: legal run configurations (R29, R94,
R125), the machine's invariant (R18, R30), and the result a run must have (R123, R136). -/

namespace Sys2Proof.Machine

/-! ### Legal configurations -/

/-- What the check of R125 and the latch of R126 leave in `lcfg`. -/
abbrev RunConfig.Legal (p : Params) (c : RunConfig) : Prop :=
  1 ≤ c.capW ∧ 1 ≤ c.capH ∧ 1 ≤ c.outW ∧ 1 ≤ c.outH ∧
  DimsAgree (oddQuadrant c.q) c.capW c.capH c.outW c.outH ∧
  c.bpp = bppOf c.fmt ∧ c.bpp * c.capW ≤ c.pitch ∧ pitchAligned p c.bpp c.pitch = true ∧
  (c.alphaOut = true → hasAlpha c.fmt = true) ∧
  c.nch = nchOf c.alphaOut ∧ c.outPitch = c.nch * c.outW ∧ c.op = cvtOpOf c.fmt c.alphaOut ∧
  c.pitch * c.capH ≤ p.srcWindowBytes ∧ c.nch * c.outW * c.outH ≤ p.outWindowBytes

/-! ### The invariant -/

/-- R18: the invariants of STATUS, and R30: BUSY says that a run is in progress. -/
abbrev StatusOk (s : State) : Prop :=
  (s.status.busy = true ↔ s.phase ≠ .idle) ∧
  (s.status.busy = true → s.status.done = false ∧ s.status.err = false) ∧
  ¬ (s.status.done = true ∧ s.status.err = true) ∧
  (s.status.err = false ↔ s.status.errCode = .noError)

/-- R30: where the sequencer stands in each phase. -/
def seqOk (s : State) : Bool :=
  match s.phase with
  | .idle => true
  | .header => s.j == 0 && s.i == 0
  | .pixel => decide (s.j < s.lcfg.outH) && decide (s.i < s.lcfg.outW)
  | .rowemit => decide (s.j < s.lcfg.outH) && s.i == s.lcfg.outW - 1
  | .final => s.j == s.lcfg.outH - 1

/-- Both windows' contents are canonical and inside their windows (R31, R32). -/
abbrev WindowsOk (s : State) : Prop :=
  Memory.wf s.src ∧ Memory.wf s.out ∧
  Memory.Within s.src s.cfg.srcWindowBytes ∧ Memory.Within s.out s.cfg.outWindowBytes

/-- What a run in progress has latched (R29, R128). -/
abbrev RunOk (s : State) : Prop :=
  s.phase ≠ .idle → s.lcfg.Legal s.cfg ∧ s.status.outRgba = s.lcfg.alphaOut

/-- The invariant of the machine. -/
abbrev Inv (s : State) : Prop :=
  s.cfg.Ok ∧ WindowsOk s ∧ StatusOk s ∧ seqOk s = true ∧ RunOk s ∧ s.wires = Wires.idle

/-! ### The result of a run (R123) -/

/-- R123: the `bpp` source bytes of an output pixel. -/
def sourcePixel (s : State) (i j : Nat) : List Byte :=
  (List.range s.lcfg.bpp).map fun k => s.srcByte (sourceOffset s.cfg.rotSense s.lcfg i j + k)

/-- R123: the output pixel in column `i` of row `j`. -/
def assemblePixel (s : State) (i j : Nat) : List Byte :=
  (convert s.cfg s.lcfg.op (sourcePixel s i j)).getD []

/-- R123: output row `j`. -/
def assembleRow (s : State) (j : Nat) : List Byte :=
  (List.range s.lcfg.outW).flatMap fun i => assemblePixel s i j

/-- R123: `assemble(lcfg, SRC)`, the first `outPitch × Ho` bytes of OUT. -/
def assemble (s : State) : List Byte :=
  (List.range s.lcfg.outH).flatMap fun j => assembleRow s j

/-- R136: the sink log of a completed run. -/
def completeLog (s : State) : List (SinkEvent × Answer) :=
  (headerEvent s.lcfg, .ok) ::
    ((List.range s.lcfg.outH).map fun j => (SinkEvent.row j (assembleRow s j), Answer.ok)) ++ [(.final, .ok)]

/-- R173: the sequencer steps of a completed run. -/
def runLength (c : RunConfig) : Nat :=
  2 + c.outW * c.outH + c.outH

/-- How many bytes of OUT, from offset 0, the run in progress has written (R135, R151). -/
def written (s : State) : Nat :=
  match s.phase with
  | .idle => 0
  | .header => 0
  | .pixel => s.outOffset
  | .rowemit => (s.j + 1) * s.lcfg.outPitch
  | .final => s.lcfg.outH * s.lcfg.outPitch

/-- R151: every pixel before the current one in scan order is in OUT, as R123 computes it. -/
abbrev Assembled (s : State) : Prop :=
  ∀ a, a < written s → s.out.read? a = (assemble s)[a]?

end Sys2Proof.Machine
end

