-- ==== Sys2Proof/Certificates/Slice0/Obligations.lean ====
section
/-! DEFINITION. The statements for the provers, each def one Prop, from the numbered rules of spec/. Where a
statement rests on a choice of the model its docstring names the log entry. -/

namespace Sys2Proof.Claims
open Sys2Proof.Machine

/-! ### Numbers written out, so that the statements do not rest on the model's own operand functions -/

/-- R57: the FORMAT value of each format. -/
def formatCode (fmt : PixelFormat) : Word :=
  match fmt with
  | .rgb565 => 0x00000000#32
  | .rgba4444 => 0x00000001#32
  | .rgb888 => 0x00000002#32
  | .rgba8888 => 0x00000003#32

/-- R34: bytes per source pixel. -/
def bytesPerPixel (fmt : PixelFormat) : Nat :=
  match fmt with
  | .rgb565 => 2
  | .rgba4444 => 2
  | .rgb888 => 3
  | .rgba8888 => 4

/-- R34, R83: the output has alpha where the format carries it and the host asked for it. -/
def wantsAlpha (fmt : PixelFormat) (alphaReq : Bool) : Bool :=
  match fmt with
  | .rgb565 => false
  | .rgba4444 => alphaReq
  | .rgb888 => false
  | .rgba8888 => alphaReq

/-- R44: the 16-bit pixel word as a number. -/
def word16 (order : ByteOrder) (b0 b1 : Byte) : Nat :=
  match order with
  | .le => b0.toNat + 256 * b1.toNat
  | .be => b1.toNat + 256 * b0.toNat

/-- R79 as arithmetic: `8v + ⌊v / 4⌋`. -/
def five (v : Nat) : Byte := BitVec.ofNat 8 (8 * v + v / 4)

/-- R80 as arithmetic: `4v + ⌊v / 16⌋`. -/
def six (v : Nat) : Byte := BitVec.ofNat 8 (4 * v + v / 16)

/-- R78: `17v`, of nibble `p` of a pixel word. -/
def nibbleTimes17 (w : Nat) (p : Fin 4) : Byte := BitVec.ofNat 8 (17 * (w / 16 ^ p.val % 16))

/-- R59: a reserved TRANSFORM bit is set and the policy rejects it. -/
def TransformRejected (s : State) : Prop :=
  s.cfg.reservedPolicy = .reject ∧ s.regs.transform &&& 0xFFFCFFFC#32 ≠ 0#32

/-- R144: a dimension is 0, or the dimensions break R94 for the quadrant. -/
def DimensionsBad (s : State) : Prop :=
  s.regs.capWidth.toNat = 0 ∨ s.regs.capHeight.toNat = 0 ∨ s.regs.outWidth.toNat = 0 ∨ s.regs.outHeight.toNat = 0 ∨
  (s.regs.transform.toNat % 2 = 0 ∧
    ¬ (s.regs.capWidth.toNat = s.regs.outWidth.toNat ∧ s.regs.capHeight.toNat = s.regs.outHeight.toNat)) ∨
  (s.regs.transform.toNat % 2 = 1 ∧
    ¬ (s.regs.capWidth.toNat = s.regs.outHeight.toNat ∧ s.regs.capHeight.toNat = s.regs.outWidth.toNat))

/-- R145, for a format of `b` bytes per pixel. -/
def PitchBad (s : State) (b : Nat) : Prop :=
  s.regs.capPitch.toNat < b * s.regs.capWidth.toNat ∨
  (s.cfg.pitchAlignCheck = .bytes16 ∧ s.regs.capPitch.toNat % 16 ≠ 0) ∨
  (s.cfg.pitchAlignCheck = .bpp16 ∧ s.regs.capPitch.toNat % (16 * b) ≠ 0)

/-- R146, for an output of `n` bytes per pixel. -/
def WindowsTooSmall (s : State) (n : Nat) : Prop :=
  s.regs.capPitch.toNat * s.regs.capHeight.toNat > s.cfg.srcWindowBytes ∨
  n * s.regs.outWidth.toNat * s.regs.outHeight.toNat > s.cfg.outWindowBytes

/-- R127: the whole state after a CTRL write of `d` whose START the check refuses with this code: ALPHA_REQ is
stored, STATUS holds the error, nothing else changes. -/
def afterRefusedStart (s : State) (d : Word) (e : ErrCode) : State :=
  { s with
    regs := { s.regs with alphaReq := d.getLsbD 1 }
    status := { busy := false, done := false, err := true, outRgba := false, errCode := e } }

/-- R133: the whole state after a run is aborted with this code: IDLE, BUSY 0, ERR 1, DONE 0, OUT_RGBA kept. -/
def afterAbort (s : State) (e : ErrCode) : State :=
  { s with
    phase := .idle
    status := { busy := false, done := false, err := true, outRgba := s.status.outRgba, errCode := e } }

/-- The wires after a transform code named this source pixel (R101). -/
def mapped (s : State) (col row : Nat) : State :=
  { s with wires := { s.wires with
      srcCol := col
      srcRow := row
      srcOff := row * s.lcfg.pitch + col * s.lcfg.bpp } }

/-- The wires after a conversion gave this pixel. -/
def converted (s : State) (px : List Byte) : State :=
  { s with wires := { s.wires with pixel := px } }

/-- The current pixel is a pixel of the output, and the dimensions agree as an even quadrant needs (R92, R94). -/
def EvenFrame (s : State) : Prop :=
  s.i < s.lcfg.outW ∧ s.j < s.lcfg.outH ∧ s.lcfg.capW = s.lcfg.outW ∧ s.lcfg.capH = s.lcfg.outH

/-- The current pixel is a pixel of the output, and the dimensions agree as an odd quadrant needs (R92, R94). -/
def OddFrame (s : State) : Prop :=
  s.i < s.lcfg.outW ∧ s.j < s.lcfg.outH ∧ s.lcfg.capW = s.lcfg.outH ∧ s.lcfg.capH = s.lcfg.outW

/-- A configuration with another orientation. -/
def oriented (c : RunConfig) (q : Fin 4) (fh fv : Bool) : RunConfig :=
  { c with q := q, fh := fh, fv := fv }

/-- The state with these contents of OUT. -/
def withOut (s : State) (m : Memory) : State :=
  { s with out := m }

/-- With these contents the bytes of OUT below offset `n` read as they do in the state. -/
def OutAgrees (s : State) (m : Memory) (n : Nat) : Prop :=
  ∀ a, a < n → (withOut s m).outByte a = s.outByte a

/-- A turn that is a CTRL write with START set. -/
def IsStart (t : Turn) : Prop :=
  ∃ sel d, t = .bus sel d ∧ decodeBus sel d = .ok (.wrCtrl d) ∧ d.getLsbD 0 = true

end Sys2Proof.Claims

open Sys2Proof Sys2Proof.Machine Sys2Proof.Claims

/-! ## Encodings -/

/-- Every well-formed instruction, with every operand, decodes from its own selector word, under either reserved
policy (R69, R70, R71). -/
def Obligations.DecodeOfEncodeIsTheInstruction : Prop :=
  ∀ (policy : ReservedPolicy) (i : Instr), WellFormed i → decode policy (encode i) = .ok i

/-- Every selector word a decoder takes is the encoding of what it decodes to, so no word has two meanings and no
bit is dropped but those R59 and R69 say are not read: the data word of a read, and under `IGNORE` the reserved
TRANSFORM bits (R71: the selector is then `reg(TRANSFORM) & 0x00030003`). -/
def Obligations.EncodeOfDecodeIsTheWord : Prop :=
  (∀ (sel : BitVec 9) (d : Word) (i : Instr), decodeBus sel d = .ok i →
    WellFormed i ∧ encode i = .bus sel (if sel.getLsbD 8 then d else 0#32)) ∧
  (∀ (sel : BitVec 33) (i : Instr), decodeCvt sel = .ok i → WellFormed i ∧ encode i = .cvt sel) ∧
  (∀ (t : Word) (i : Instr), decodeXform .reject t = .ok i → WellFormed i ∧ encode i = .xform t) ∧
  (∀ (t : Word) (i : Instr), decodeXform .ignore t = .ok i →
    WellFormed i ∧ encode i = .xform (t &&& 0x00030003#32))

/-- Which words are illegal: a register offset that is no multiple of 4 (R47, R69), a FORMAT above 3 (R57, R73),
a TRANSFORM with a reserved bit under `REJECT` and none under `IGNORE` (R59, R73). -/
def Obligations.DecodersRefuseExactlyTheIllegalWords : Prop :=
  (∀ (sel : BitVec 9) (d : Word), (∃ i, decodeBus sel d = .ok i) ↔ sel.toNat % 4 = 0) ∧
  (∀ sel : BitVec 33, (∃ i, decodeCvt sel = .ok i) ↔ sel.toNat % 2 ^ 32 ≤ 3) ∧
  (∀ t : Word, (∃ i, decodeXform .reject t = .ok i) ↔ t &&& 0xFFFCFFFC#32 = 0#32) ∧
  (∀ t : Word, ∃ i, decodeXform .ignore t = .ok i)

/-- A sanity check of a few words written out from R69, R70, R71 and R75. -/
def Obligations.SampleWordsDecodeAsTheSpecSays : Prop :=
  decodeBus 0b100001000#9 0x00000001#32 = .ok (.wrFormat 0x00000001#32) ∧
  decodeBus 0b100000000#9 0x00000001#32 = .ok (.wrCtrl 0x00000001#32) ∧
  decodeBus 0b000000100#9 0x00000000#32 = .ok .rdStatus ∧
  decodeBus 0b011111100#9 0x00000000#32 = .ok (.rdUnmapped 0xFC#8) ∧
  decodeCvt 0x100000001#33 = .ok .cvtRgba4444Rgba ∧
  decodeCvt 0x000000003#33 = .ok .cvtRgba8888Rgb ∧
  decodeXform .reject 0x00030003#32 = .ok .xfQ3Hv ∧
  decodeXform .reject 0x00000004#32 = .error (.reservedTransformBits 0x00000004#32) ∧
  decodeXform .ignore 0x00000004#32 = .ok .xfQ0

/-! ## What a step runs -/

/-- When the next turn is a register access whose selector decodes, the step is `exec` of that instruction at the
state with the turn taken off the schedule (R69); the schedule is the model's own (log entry 1). -/
def Obligations.StepRunsTheDecodedAccess : Prop :=
  ∀ (s : State) (sel : BitVec 9) (d : Word) (rest : List Turn) (i : Instr),
    s.turns = .bus sel d :: rest → decodeBus sel d = .ok i → step s = exec i { s with turns := rest }

/-- When the next turn is the sequencer's, in PIXEL, answered OK: the step is `exec` of the latched transform code,
the read of the bytes at the offset it gives, `exec` of the latched conversion on them, and the write of the pixel
it gives (R130). The wires that carry the values are the model's own (log entry 2). -/
def Obligations.PixelStepRunsTheLatchedInstructions : Prop :=
  ∀ (s : State) (rest : List Turn) (bs : List Byte) (s1 s2 : State),
    s.turns = .seq (some .ok) :: rest → s.phase = .pixel →
    exec s.xformInstr { s with turns := rest } = .next s1 →
    s1.memRead s1.wires.srcOff s.lcfg.bpp = some bs →
    exec s.cvtInstr { s1 with wires := { s1.wires with bytes := bs } } = .next s2 →
    step s = writePixel s2

/-- What an accepted START latches is what the two selector decoders read from the registers: the transform code
from TRANSFORM (R71), the conversion from `ALPHA_REQ, FORMAT` (R70). -/
def Obligations.StartLatchesTheDecodedSelectors : Prop :=
  ∀ (s t : State) (d : Word),
    s.status.busy = false → d.getLsbD 0 = true → exec (.wrCtrl d) s = .next t → t.status.busy = true →
    decodeXform s.cfg.reservedPolicy s.regs.transform = .ok t.xformInstr ∧
    ∃ i, decodeCvt (BitVec.ofBool (d.getLsbD 1) ++ s.regs.format) = .ok i ∧
      ∀ u, exec i u = exec t.cvtInstr u

/-- A register access at an offset that is no multiple of 4 has no move (R47): the step is refused by name. -/
def Obligations.MisalignedAccessHasNoMove : Prop :=
  ∀ (s : State) (sel : BitVec 9) (d : Word) (rest : List Turn),
    s.turns = .bus sel d :: rest → sel.toNat % 4 ≠ 0 →
    step s = .refused (.noMoveBusSelector (.misalignedOffset sel))

/-! ## The register port -/

/-- Each configuration register reads as the stored word, with no side effect (R19 to R26, R47). -/
def Obligations.ConfigurationReadsReturnTheStoredWord : Prop :=
  ∀ s : State,
    exec .rdFormat s = .next { s with reply := .word s.regs.format } ∧
    exec .rdTransform s = .next { s with reply := .word s.regs.transform } ∧
    exec .rdCapWidth s = .next { s with reply := .word s.regs.capWidth } ∧
    exec .rdCapHeight s = .next { s with reply := .word s.regs.capHeight } ∧
    exec .rdCapPitch s = .next { s with reply := .word s.regs.capPitch } ∧
    exec .rdOutWidth s = .next { s with reply := .word s.regs.outWidth } ∧
    exec .rdOutHeight s = .next { s with reply := .word s.regs.outHeight } ∧
    exec .rdSinkParam s = .next { s with reply := .word s.regs.sinkParam }

/-- Each configuration write stores all 32 bits, whether or not a run is in progress, and changes nothing else
(R16, R19 to R26, R28, R168). -/
def Obligations.ConfigurationWritesStoreAll32Bits : Prop :=
  ∀ (s : State) (d : Word),
    exec (.wrFormat d) s = .next { s with regs := { s.regs with format := d } } ∧
    exec (.wrTransform d) s = .next { s with regs := { s.regs with transform := d } } ∧
    exec (.wrCapWidth d) s = .next { s with regs := { s.regs with capWidth := d } } ∧
    exec (.wrCapHeight d) s = .next { s with regs := { s.regs with capHeight := d } } ∧
    exec (.wrCapPitch d) s = .next { s with regs := { s.regs with capPitch := d } } ∧
    exec (.wrOutWidth d) s = .next { s with regs := { s.regs with outWidth := d } } ∧
    exec (.wrOutHeight d) s = .next { s with regs := { s.regs with outHeight := d } } ∧
    exec (.wrSinkParam d) s = .next { s with regs := { s.regs with sinkParam := d } }

/-- CTRL reads as `ALPHA_REQ << 1`, START as 0 (R17). -/
def Obligations.CtrlReadsAlphaReqInBitOne : Prop :=
  ∀ s : State,
    exec .rdCtrl s = .next { s with reply := .word (if s.regs.alphaReq then 0x00000002#32 else 0x00000000#32) }

/-- Every bit a STATUS read returns (R18, R61, R62), and that the read clears nothing (R47). -/
def Obligations.StatusReadShowsEveryField : Prop :=
  ∀ s : State, ∃ v : Word,
    exec .rdStatus s = .next { s with reply := .word v } ∧
    v.getLsbD 0 = s.status.busy ∧ v.getLsbD 1 = s.status.done ∧ v.getLsbD 2 = s.status.err ∧
    v.getLsbD 3 = s.status.outRgba ∧
    (∀ k, 4 ≤ k → k < 8 → v.getLsbD k = false) ∧
    v.toNat / 2 ^ 8 =
      (match s.status.errCode with
       | .noError => 0
       | .badFormat => 1
       | .badTransform => 2
       | .badDimension => 3
       | .badPitch => 4
       | .resource => 5
       | .sourceError => 6
       | .sinkError => 7)

/-- STATUS is read-only: a write to it is ignored (R18). -/
def Obligations.StatusWritesAreIgnored : Prop :=
  ∀ (s : State) (d : Word), exec (.wrStatus d) s = .next s

/-- R27, for the instructions and for the steps that decode them. -/
def Obligations.UnmappedOffsetsReadZeroAndIgnoreWrites : Prop :=
  ∀ (s : State) (off : BitVec 8) (d : Word), 0x28 ≤ off.toNat → off.toNat % 4 = 0 →
    exec (.rdUnmapped off) s = .next { s with reply := .word 0x00000000#32 } ∧
    exec (.wrUnmapped off d) s = .next s ∧
    (∀ rest, s.turns = .bus (0#1 ++ off) d :: rest →
      step s = .next { s with turns := rest, reply := .word 0x00000000#32 }) ∧
    (∀ rest, s.turns = .bus (1#1 ++ off) d :: rest → step s = .next { s with turns := rest })

/-! ## CTRL and START -/

/-- A CTRL write with bit 0 clear stores ALPHA_REQ and starts nothing (R17, R124). -/
def Obligations.CtrlWriteWithoutStartStoresAlphaReq : Prop :=
  ∀ (s : State) (d : Word), d.getLsbD 0 = false →
    exec (.wrCtrl d) s = .next { s with regs := { s.regs with alphaReq := d.getLsbD 1 } }

/-- R167: START while BUSY changes nothing but ALPHA_REQ. -/
def Obligations.StartWhileBusyIsIgnored : Prop :=
  ∀ (s : State) (d : Word), d.getLsbD 0 = true → s.status.busy = true →
    exec (.wrCtrl d) s = .next { s with regs := { s.regs with alphaReq := d.getLsbD 1 } }

/-- R142, R127: FORMAT above 3 is BAD_FORMAT, before every other error. -/
def Obligations.StartRefusesUnknownFormats : Prop :=
  ∀ (s : State) (d : Word), d.getLsbD 0 = true → s.status.busy = false → s.regs.format.toNat > 3 →
    exec (.wrCtrl d) s = .next (afterRefusedStart s d .badFormat) ∧
    (afterRefusedStart s d .badFormat).status.word = 0x00000104#32

/-- R143: a reserved TRANSFORM bit under `REJECT` is BAD_TRANSFORM, after BAD_FORMAT and before the other errors;
under `IGNORE` no START raises it. -/
def Obligations.StartRefusesReservedTransformBits : Prop :=
  ∀ (s : State) (d : Word), d.getLsbD 0 = true → s.status.busy = false →
    (s.regs.format.toNat ≤ 3 → TransformRejected s →
      exec (.wrCtrl d) s = .next (afterRefusedStart s d .badTransform) ∧
      (afterRefusedStart s d .badTransform).status.word = 0x00000204#32) ∧
    (s.cfg.reservedPolicy = .ignore → ∀ t, exec (.wrCtrl d) s = .next t → t.status.errCode ≠ .badTransform)

/-- R144: a zero dimension, or dimensions that break R94, is BAD_DIMENSION, after BAD_FORMAT and BAD_TRANSFORM. -/
def Obligations.StartRefusesBadDimensions : Prop :=
  ∀ (s : State) (d : Word), d.getLsbD 0 = true → s.status.busy = false →
    s.regs.format.toNat ≤ 3 → ¬ TransformRejected s → DimensionsBad s →
    exec (.wrCtrl d) s = .next (afterRefusedStart s d .badDimension) ∧
    (afterRefusedStart s d .badDimension).status.word = 0x00000304#32

/-- R145: a pitch below `bpp × width`, or one the selected alignment check rejects, is BAD_PITCH, after the three
errors before it. -/
def Obligations.StartRefusesBadPitch : Prop :=
  ∀ (s : State) (d : Word) (fmt : PixelFormat), d.getLsbD 0 = true → s.status.busy = false →
    s.regs.format = formatCode fmt → ¬ TransformRejected s → ¬ DimensionsBad s → PitchBad s (bytesPerPixel fmt) →
    exec (.wrCtrl d) s = .next (afterRefusedStart s d .badPitch) ∧
    (afterRefusedStart s d .badPitch).status.word = 0x00000404#32

/-- R146: a capture or an output that does not fit its window is RESOURCE, after every configuration error. -/
def Obligations.StartRefusesWindowsTooSmall : Prop :=
  ∀ (s : State) (d : Word) (fmt : PixelFormat), d.getLsbD 0 = true → s.status.busy = false →
    s.regs.format = formatCode fmt → ¬ TransformRejected s → ¬ DimensionsBad s → ¬ PitchBad s (bytesPerPixel fmt) →
    WindowsTooSmall s (if wantsAlpha fmt (d.getLsbD 1) then 4 else 3) →
    exec (.wrCtrl d) s = .next (afterRefusedStart s d .resource) ∧
    (afterRefusedStart s d .resource).status.word = 0x00000504#32

/-- R126, R128, R29: a START that passes every check stores ALPHA_REQ, latches each field of `lcfg` and begins the
run: BUSY 1, DONE, ERR and ERR_CODE 0, OUT_RGBA the run's colour mode, phase HEADER at row 0, column 0. Nothing
else changes. -/
def Obligations.AcceptedStartLatchesAndBegins : Prop :=
  ∀ (s : State) (d : Word) (fmt : PixelFormat), d.getLsbD 0 = true → s.status.busy = false →
    s.regs.format = formatCode fmt → ¬ TransformRejected s → ¬ DimensionsBad s → ¬ PitchBad s (bytesPerPixel fmt) →
    ¬ WindowsTooSmall s (if wantsAlpha fmt (d.getLsbD 1) then 4 else 3) →
    ∃ c : RunConfig,
      exec (.wrCtrl d) s = .next { s with
        regs := { s.regs with alphaReq := d.getLsbD 1 }
        status := { busy := true, done := false, err := false, outRgba := c.alphaOut, errCode := .noError }
        lcfg := c
        phase := .header
        j := 0
        i := 0 } ∧
      c.fmt = fmt ∧ c.q.val = s.regs.transform.toNat % 4 ∧
      c.fh = s.regs.transform.getLsbD 16 ∧ c.fv = s.regs.transform.getLsbD 17 ∧
      c.capW = s.regs.capWidth.toNat ∧ c.capH = s.regs.capHeight.toNat ∧ c.pitch = s.regs.capPitch.toNat ∧
      c.outW = s.regs.outWidth.toNat ∧ c.outH = s.regs.outHeight.toNat ∧
      c.alphaOut = wantsAlpha fmt (d.getLsbD 1) ∧ c.bpp = bytesPerPixel fmt ∧
      c.nch = (if wantsAlpha fmt (d.getLsbD 1) then 4 else 3) ∧
      c.outPitch = (if wantsAlpha fmt (d.getLsbD 1) then 4 else 3) * s.regs.outWidth.toNat ∧
      c.op = (match fmt with
        | .rgb565 => .rgb565
        | .rgba4444 => if d.getLsbD 1 then .rgba4444Rgba else .rgba4444Rgb
        | .rgb888 => .rgb888
        | .rgba8888 => if d.getLsbD 1 then .rgba8888Rgba else .rgba8888Rgb) ∧
      c.sinkParam = s.regs.sinkParam

/-- R164: a START right after reset is refused with STATUS 0x00000304, whatever the OPEN window sizes. The spec
marks R164 "derived: from 42_raster_assembler.md rule R125". -/
def Obligations.StartRightAfterResetIsRefused : Prop :=
  exec (.wrCtrl 0x00000001#32) State.reset = .next (afterRefusedStart State.reset 0x00000001#32 .badDimension) ∧
  (afterRefusedStart State.reset 0x00000001#32 .badDimension).status.word = 0x00000304#32

/-! ## The orientation mapper -/

/-- R102 to R105: the codes of quadrant 0, in closed form. The wires are the model's own (log entry 2). -/
def Obligations.QuadrantZeroCodesMapThePixel : Prop :=
  ∀ s : State, EvenFrame s →
    exec .xfQ0 s = .next (mapped s s.i s.j) ∧
    exec .xfQ0H s = .next (mapped s (s.lcfg.capW - 1 - s.i) s.j) ∧
    exec .xfQ0V s = .next (mapped s s.i (s.lcfg.capH - 1 - s.j)) ∧
    exec .xfQ0Hv s = .next (mapped s (s.lcfg.capW - 1 - s.i) (s.lcfg.capH - 1 - s.j))

/-- R106 to R109 under `UNDO_CW`: the codes of quadrant 1, in closed form. -/
def Obligations.QuadrantOneCodesMapThePixel : Prop :=
  ∀ s : State, OddFrame s → s.cfg.rotSense = .undoCw →
    exec .xfQ1 s = .next (mapped s (s.lcfg.capW - 1 - s.j) s.i) ∧
    exec .xfQ1H s = .next (mapped s (s.lcfg.capW - 1 - s.j) (s.lcfg.capH - 1 - s.i)) ∧
    exec .xfQ1V s = .next (mapped s s.j s.i) ∧
    exec .xfQ1Hv s = .next (mapped s s.j (s.lcfg.capH - 1 - s.i))

/-- R110 to R113: the codes of quadrant 2, in closed form. -/
def Obligations.QuadrantTwoCodesMapThePixel : Prop :=
  ∀ s : State, EvenFrame s →
    exec .xfQ2 s = .next (mapped s (s.lcfg.capW - 1 - s.i) (s.lcfg.capH - 1 - s.j)) ∧
    exec .xfQ2H s = .next (mapped s s.i (s.lcfg.capH - 1 - s.j)) ∧
    exec .xfQ2V s = .next (mapped s (s.lcfg.capW - 1 - s.i) s.j) ∧
    exec .xfQ2Hv s = .next (mapped s s.i s.j)

/-- R114 to R117 under `UNDO_CW`: the codes of quadrant 3, in closed form. -/
def Obligations.QuadrantThreeCodesMapThePixel : Prop :=
  ∀ s : State, OddFrame s → s.cfg.rotSense = .undoCw →
    exec .xfQ3 s = .next (mapped s s.j (s.lcfg.capH - 1 - s.i)) ∧
    exec .xfQ3H s = .next (mapped s s.j s.i) ∧
    exec .xfQ3V s = .next (mapped s (s.lcfg.capW - 1 - s.j) (s.lcfg.capH - 1 - s.i)) ∧
    exec .xfQ3Hv s = .next (mapped s (s.lcfg.capW - 1 - s.j) s.i)

/-- Each of the 16 codes, whose meaning is the closed form of its own rule, maps as the composition of R95 to R101
does: flip in output coordinates first, then rotate, under either `ROT_SENSE`. -/
def Obligations.TransformCodesComposeFlipThenRotation : Prop :=
  ∀ (s : State) (q : Fin 4) (fh fv : Bool),
    (if q.val % 2 = 0 then EvenFrame s else OddFrame s) →
    let i' := if fh then s.lcfg.outW - 1 - s.i else s.i
    let j' := if fv then s.lcfg.outH - 1 - s.j else s.j
    let quarterOne := (s.lcfg.capW - 1 - j', i')
    let quarterThree := (j', s.lcfg.capH - 1 - i')
    let pos : Nat × Nat :=
      match q with
      | 0 => (i', j')
      | 1 => if s.cfg.rotSense = .undoCw then quarterOne else quarterThree
      | 2 => (s.lcfg.capW - 1 - i', s.lcfg.capH - 1 - j')
      | 3 => if s.cfg.rotSense = .undoCw then quarterThree else quarterOne
    exec (xformInstr q fh fv) s = .next (mapped s pos.1 pos.2)

/-- R119 (b), (c), (d), which the spec marks "derived: from rules R94 to R100": under the dimension relation the
mapping stays inside the capture, reaches every captured pixel from exactly one output pixel, and for an odd
quadrant its row depends on the output column alone and its column on the output row alone. -/
def Obligations.SourcePositionsAreABijection : Prop :=
  ∀ (sense : RotSense) (c : RunConfig), DimsAgree (oddQuadrant c.q) c.capW c.capH c.outW c.outH →
    (∀ i j, i < c.outW → j < c.outH → (srcPos sense c i j).1 < c.capW ∧ (srcPos sense c i j).2 < c.capH) ∧
    (∀ col row, col < c.capW → row < c.capH →
      ∃ i j, i < c.outW ∧ j < c.outH ∧ srcPos sense c i j = (col, row) ∧
        ∀ i' j', i' < c.outW → j' < c.outH → srcPos sense c i' j' = (col, row) → i' = i ∧ j' = j) ∧
    (c.q.val % 2 = 1 → ∀ i j i' j',
      (srcPos sense c i j).2 = (srcPos sense c i j').2 ∧ (srcPos sense c i j).1 = (srcPos sense c i' j).1)

/-- R120, which the spec marks "derived: from rule R119(b) and 10_state.md rule R23": for every legal run the
bytes read for an output pixel lie in one captured row, before its padding, and inside the capture. -/
def Obligations.PixelReadsStayInTheCaptureAndOffThePadding : Prop :=
  ∀ (p : Params) (c : RunConfig) (i j : Nat), c.Legal p → i < c.outW → j < c.outH →
    ∃ r, r < c.capH ∧
      r * c.pitch ≤ sourceOffset p.rotSense c i j ∧
      sourceOffset p.rotSense c i j + c.bpp ≤ r * c.pitch + c.bpp * c.capW ∧
      r * c.pitch + c.bpp * c.capW ≤ (r + 1) * c.pitch ∧
      (r + 1) * c.pitch ≤ c.capH * c.pitch ∧
      ∀ k, k < c.bpp → ∃ k', k' < c.bpp * c.capW ∧ sourceOffset p.rotSense c i j + k = r * c.pitch + k'

/-- R118, which the spec marks "derived: from rules R95 to R100": two codes give the same mapping on every frame
both admit exactly when they are the same code or each other's partner `(q + 2 mod 4, ¬fh, ¬fv)`: sixteen codes,
eight mappings, under either `ROT_SENSE`. -/
def Obligations.SixteenCodesGiveEightMappings : Prop :=
  ∀ (sense : RotSense) (q q' : Fin 4) (fh fh' fv fv' : Bool),
    (∀ c : RunConfig, DimsAgree (oddQuadrant q) c.capW c.capH c.outW c.outH →
      DimsAgree (oddQuadrant q') c.capW c.capH c.outW c.outH →
      ∀ i j, i < c.outW → j < c.outH →
        srcPos sense (oriented c q fh fv) i j = srcPos sense (oriented c q' fh' fv') i j) ↔
    ((q' = q ∧ fh' = fh ∧ fv' = fv) ∨ (q' = q + 2 ∧ fh' = !fh ∧ fv' = !fv))

/-! ## The pixel format converter -/

/-- R84 with R44, R63, R79, R80: the RGB565 conversion in arithmetic, for either byte order; the alpha request has
no effect. The wires are the model's own (log entry 2). -/
def Obligations.Rgb565ExpandsByReplication : Prop :=
  ∀ (s : State) (alphaReq : Bool) (b0 b1 : Byte), s.wires.bytes = [b0, b1] →
    let w := word16 s.cfg.pix16ByteOrder b0 b1
    exec (.cvtRgb565 alphaReq) s = .next (converted s [five (w / 2048), six (w / 32 % 64), five (w % 32)])

/-- R85, R86 with R44, R64, R78: the two RGBA4444 conversions in arithmetic, for either byte order and every nibble
layout; without the alpha request the alpha nibble is discarded. -/
def Obligations.Rgba4444ReplicatesItsNibbles : Prop :=
  ∀ (s : State) (b0 b1 : Byte), s.wires.bytes = [b0, b1] →
    let w := word16 s.cfg.pix16ByteOrder b0 b1
    let l := s.cfg.rgba4444Layout
    exec .cvtRgba4444Rgba s = .next (converted s
      [nibbleTimes17 w l.r, nibbleTimes17 w l.g, nibbleTimes17 w l.b, nibbleTimes17 w l.a]) ∧
    exec .cvtRgba4444Rgb s = .next (converted s
      [nibbleTimes17 w l.r, nibbleTimes17 w l.g, nibbleTimes17 w l.b])

/-- R87, R88, R89: the 8-bit formats are copied byte for byte; without the alpha request byte 3 is discarded. -/
def Obligations.EightBitFormatsAreCopied : Prop :=
  ∀ (s : State) (alphaReq : Bool) (b0 b1 b2 b3 : Byte),
    (s.wires.bytes = [b0, b1, b2] → exec (.cvtRgb888 alphaReq) s = .next (converted s [b0, b1, b2])) ∧
    (s.wires.bytes = [b0, b1, b2, b3] →
      exec .cvtRgba8888Rgba s = .next (converted s [b0, b1, b2, b3]) ∧
      exec .cvtRgba8888Rgb s = .next (converted s [b0, b1, b2]))

/-- R82, which the spec marks "derived: from rules R77 to R81": (a) the ends, (b) strictly increasing, (c)
reversible, (d) against the truncating rescale: equal for 4 and 8 bits, larger by 1 at 15 of 32 values for 5 bits
and at 30 of 64 for 6 bits, and never otherwise different. -/
def Obligations.ExpansionIsReversibleAndNearTheRescale : Prop :=
  let rescale (n v : Nat) : Nat := v * 255 / (2 ^ n - 1)
  let above (n : Nat) : Nat := ((List.range (2 ^ n)).filter fun v => (expandN n v).toNat = rescale n v + 1).length
  (∀ n ∈ [4, 5, 6, 8],
    (expandN n 0).toNat = 0 ∧ (expandN n (2 ^ n - 1)).toNat = 255 ∧
    (∀ v w, v < w → w < 2 ^ n → (expandN n v).toNat < (expandN n w).toNat) ∧
    (∀ v, v < 2 ^ n → (expandN n v).toNat / 2 ^ (8 - n) = v) ∧
    (∀ v, v < 2 ^ n → (expandN n v).toNat = rescale n v ∨ (expandN n v).toNat = rescale n v + 1)) ∧
  above 4 = 0 ∧ above 5 = 15 ∧ above 6 = 30 ∧ above 8 = 0

/-! ## The sequencer's steps -/

/-- R129, R133: the HEADER step, for either answer of the sink. -/
def Obligations.HeaderStepEmitsTheHeader : Prop :=
  ∀ (s : State) (rest : List Turn), s.phase = .header →
    let header : SinkEvent :=
      .header s.lcfg.outW s.lcfg.outH (if s.lcfg.alphaOut then .rgba else .rgb) 8 s.lcfg.sinkParam
    (s.turns = .seq (some .ok) :: rest →
      step s = .next { s with turns := rest, log := s.log ++ [(header, .ok)], phase := .pixel }) ∧
    (s.turns = .seq (some .error) :: rest →
      step s = .next (afterAbort { s with turns := rest, log := s.log ++ [(header, .error)] } .sinkError))

/-- R130: a PIXEL step whose read is answered OK converts the source bytes of the current pixel, stores the result
at `j × outPitch + i × nch` in OUT, leaves every other byte of OUT and every other part of the state alone, and goes
to the next column or, after the last, to ROWEMIT with `i` kept. -/
def Obligations.PixelStepStoresTheConvertedPixel : Prop :=
  ∀ (s : State) (rest : List Turn), Inv s → s.phase = .pixel → s.turns = .seq (some .ok) :: rest →
    ∃ (t : State) (px : List Byte),
      convert s.cfg s.lcfg.op (sourcePixel s s.i s.j) = some px ∧ px.length = s.lcfg.nch ∧
      step s = .next t ∧
      (∀ k, k < s.lcfg.nch → t.out.read? (s.j * s.lcfg.outPitch + s.i * s.lcfg.nch + k) = px[k]?) ∧
      (∀ a, a < s.j * s.lcfg.outPitch + s.i * s.lcfg.nch ∨
          s.j * s.lcfg.outPitch + s.i * s.lcfg.nch + s.lcfg.nch ≤ a →
        t.out.read? a = s.out.read? a ∧ t.outByte a = s.outByte a) ∧
      t = { s with
        turns := rest
        out := t.out
        phase := if s.i + 1 < s.lcfg.outW then .pixel else .rowemit
        i := if s.i + 1 < s.lcfg.outW then s.i + 1 else s.i }

/-- R130, R147, R133: a PIXEL step whose read is answered ERROR writes nothing and ends the run with
SOURCE_ERROR. -/
def Obligations.SourceErrorEndsTheRunUnwritten : Prop :=
  ∀ (s : State) (rest : List Turn), Inv s → s.phase = .pixel → s.turns = .seq (some .error) :: rest →
    step s = .next (afterAbort { s with turns := rest } .sourceError)

/-- R131, R133: the ROWEMIT step emits the `outPitch` bytes of row `j` of OUT; accepted, the next row or FINAL
follows; rejected, the run ends with SINK_ERROR. -/
def Obligations.RowStepEmitsTheWholeRow : Prop :=
  ∀ (s : State) (rest : List Turn), Inv s → s.phase = .rowemit →
    let row : SinkEvent :=
      .row s.j ((List.range s.lcfg.outPitch).map fun k => s.outByte (s.j * s.lcfg.outPitch + k))
    (s.turns = .seq (some .ok) :: rest →
      step s = .next { s with
        turns := rest
        log := s.log ++ [(row, .ok)]
        phase := if s.j + 1 < s.lcfg.outH then .pixel else .final
        j := if s.j + 1 < s.lcfg.outH then s.j + 1 else s.j
        i := if s.j + 1 < s.lcfg.outH then 0 else s.i }) ∧
    (s.turns = .seq (some .error) :: rest →
      step s = .next (afterAbort { s with turns := rest, log := s.log ++ [(row, .error)] } .sinkError))

/-- R132, R133: the FINAL step, for either answer of the sink. -/
def Obligations.FinalStepFinishesTheRun : Prop :=
  ∀ (s : State) (rest : List Turn), s.phase = .final →
    (s.turns = .seq (some .ok) :: rest →
      step s = .next { s with
        turns := rest
        log := s.log ++ [(.final, .ok)]
        phase := .idle
        status := { s.status with busy := false, done := true } }) ∧
    (s.turns = .seq (some .error) :: rest →
      step s = .next (afterAbort { s with turns := rest, log := s.log ++ [(.final, .error)] } .sinkError))

/-- R139 (which the spec marks "derived: from rules R124 and R128"), R134, R171: no sequencer step is enabled
while IDLE, nor in HEADER, ROWEMIT or FINAL while the sink offers no answer: the machine is stuck, which is no
block error. That it is stuck in PIXEL too, where R49 speaks of the answers OK and ERROR only and of no silent
source window, is the model's choice (log entry 15). -/
def Obligations.SequencerIsStuckWithoutWorkOrAnswer : Prop :=
  ∀ (s : State) (answer : Option Answer) (rest : List Turn), s.turns = .seq answer :: rest →
    (s.phase = .idle → step s = .fault .idleSequencer) ∧
    (s.phase ≠ .idle → answer = none → step s = .fault .noAnswer)

/-! ## The host's windows and reset -/

/-- R74, R31: `LOADSRC` between runs stores its bytes in SRC, inside the window, and changes nothing else. -/
def Obligations.LoadSrcStoresTheBytes : Prop :=
  ∀ (s : State) (off : Nat) (bytes : List Byte) (rest : List Turn),
    s.turns = .loadSrc off bytes :: rest → s.status.busy = false → off + bytes.length ≤ s.cfg.srcWindowBytes →
    ∃ t, step s = .next t ∧ t = { s with turns := rest, src := t.src } ∧
      (∀ k, k < bytes.length → t.src.read? (off + k) = bytes[k]?) ∧
      (∀ a, a < off ∨ off + bytes.length ≤ a → t.srcByte a = s.srcByte a)

/-- R74, R53: `RDOUT` between runs returns the bytes of OUT and changes nothing else. A byte no run has written
since reset is any value (log entry 5). -/
def Obligations.RdOutReturnsTheBytes : Prop :=
  ∀ (s : State) (off n : Nat) (rest : List Turn),
    s.turns = .rdOut off n :: rest → s.status.busy = false → off + n ≤ s.cfg.outWindowBytes →
    step s = .next { s with
      turns := rest
      reply := .bytes ((List.range n).map fun k => s.outByte (off + k)) }

/-- R52: while BUSY the host has no move that writes SRC or reads OUT: the step is refused by name. -/
def Obligations.WindowsBelongToTheRun : Prop :=
  ∀ (s : State) (rest : List Turn), s.status.busy = true →
    (∀ off bytes, s.turns = .loadSrc off bytes :: rest → step s = .refused .noMoveSrcWriteWhileBusy) ∧
    (∀ off n, s.turns = .rdOut off n :: rest → step s = .refused .noMoveOutAccessWhileBusy)

/-- R162, R36, R163: reset, at any time, sets every register to 0 and `phase` to IDLE, emits nothing, and leaves
SRC, the sink log and the parameters. Nothing is said of OUT: it is any value. -/
def Obligations.ResetClearsEveryRegister : Prop :=
  ∀ (s : State) (rest : List Turn), s.turns = .reset :: rest →
    ∃ t, step s = .next t ∧
      t.regs = ⟨false, 0#32, 0#32, 0#32, 0#32, 0#32, 0#32, 0#32, 0#32⟩ ∧
      t.status.word = 0x00000000#32 ∧ t.status.busy = false ∧ t.phase = .idle ∧
      t.src = s.src ∧ t.log = s.log ∧ t.cfg = s.cfg ∧ t.turns = rest

/-! ## Invariants of the machine -/

/-- Reset meets the invariant. -/
def Obligations.ResetMeetsTheInvariant : Prop :=
  Inv State.reset

/-- Every step, from every state that meets it, keeps the invariant, whose parts R18 and R30 the spec marks as
derived: the windows' contents canonical and inside their windows, STATUS as R18 says, the sequencer as R30 says,
a run's latched configuration legal (R29, R94, R125, R126), no signal on the wires between steps. -/
def Obligations.EveryStepKeepsTheInvariant : Prop :=
  ∀ s t : State, Inv s → step s = .next t → Inv t

/-- R135 and R151 (each marked as derived by the spec), R123: at every moment of every run, under every
interleaving of the agents, OUT holds exactly `assemble(lcfg, SRC)` in the bytes before the current pixel in scan
order. -/
def Obligations.EveryStepKeepsTheAssembledRows : Prop :=
  ∀ s t : State, Inv s → Assembled s → step s = .next t → Assembled t

/-- R136 and R173 (each marked as derived by the spec): a run whose every request is answered OK takes exactly `2
+ Wo × Ho + Ho` sequencer steps and ends DONE, with OUT holding `assemble(lcfg, SRC)`, every byte beyond it as
before (R53), and the sink log grown by the header, every row in order and FINAL, each accepted. -/
def Obligations.CompletedRunDeliversTheAssembledRaster : Prop :=
  ∀ (s : State) (rest : List Turn), Inv s → s.phase = .header →
    s.turns = List.replicate (2 + s.lcfg.outW * s.lcfg.outH + s.lcfg.outH) (.seq (some .ok)) ++ rest →
    ∃ t, Sys2Proof.core.run (2 + s.lcfg.outW * s.lcfg.outH + s.lcfg.outH) s = .next t ∧
      t.outRange 0 (s.lcfg.outPitch * s.lcfg.outH) = some (assemble s) ∧
      (∀ a, s.lcfg.outPitch * s.lcfg.outH ≤ a → t.outByte a = s.outByte a) ∧
      t.log = s.log ++ [(.header s.lcfg.outW s.lcfg.outH (if s.lcfg.alphaOut then .rgba else .rgb) 8
          s.lcfg.sinkParam, .ok)] ++
        ((List.range s.lcfg.outH).map fun j => (.row j (assembleRow s j), .ok)) ++ [(.final, .ok)] ∧
      t.status = { busy := false, done := true, err := false, outRgba := s.lcfg.alphaOut, errCode := .noError } ∧
      t.phase = .idle ∧ t.regs = s.regs ∧ t.src = s.src ∧ t.turns = rest

/-! ## Rules of the whole machine -/

/-- R7, R28, R31: no step changes the parameters, only a host access changes the host-writable registers (or
reset), and only `LOADSRC` changes SRC. -/
def Obligations.OnlyTheHostWritesRegistersAndSrc : Prop :=
  ∀ (s t : State) (turn : Turn) (rest : List Turn), s.turns = turn :: rest → step s = .next t →
    t.cfg = s.cfg ∧ t.turns = rest ∧
    (t.regs ≠ s.regs → turn = .reset ∨ ∃ sel d, turn = .bus sel d) ∧
    (t.src ≠ s.src → ∃ off bytes, turn = .loadSrc off bytes)

/-- R18: DONE, ERR and ERR_CODE change only at an accepted START, at the end of a run and at reset; OUT_RGBA only at
an accepted START and at reset. -/
def Obligations.StatusChangesOnlyAtStartEndAndReset : Prop :=
  ∀ (s t : State) (turn : Turn) (rest : List Turn), s.turns = turn :: rest → step s = .next t →
    (t.status.done ≠ s.status.done ∨ t.status.err ≠ s.status.err ∨ t.status.errCode ≠ s.status.errCode →
      turn = .reset ∨ (IsStart turn ∧ s.status.busy = false) ∨
        (∃ a, turn = .seq (some a) ∧ s.phase ≠ .idle ∧ t.phase = .idle)) ∧
    (t.status.outRgba ≠ s.status.outRgba → turn = .reset ∨ (IsStart turn ∧ s.status.busy = false))

/-- R126, R29, R55: `lcfg` changes only at an accepted START whose checks pass, and at reset, where it is
unobservable (log entry 7). -/
def Obligations.LatchedConfigurationIsFixedForTheRun : Prop :=
  ∀ (s t : State) (turn : Turn) (rest : List Turn), s.turns = turn :: rest → step s = .next t →
    t.lcfg ≠ s.lcfg →
    turn = .reset ∨ (IsStart turn ∧ s.status.busy = false ∧ t.status.busy = true ∧ t.phase = .header)

/-- R138: no register write and no other host action ends a run: it ends only by a sequencer step or by reset. -/
def Obligations.NoHostActionCancelsARun : Prop :=
  ∀ (s t : State) (turn : Turn) (rest : List Turn), s.turns = turn :: rest → step s = .next t →
    s.phase ≠ .idle → s.status.busy = true → (t.phase = .idle ∨ t.status.busy = false) →
    turn = .reset ∨ ∃ a, turn = .seq (some a)

/-- R37, R42, R50, R130: a byte of OUT changes only in a PIXEL step answered OK, and then only inside the output
raster; between resets nothing else writes OUT. That the
host has no write of OUT is the model's reading (log entry 18). -/
def Obligations.OnlyPixelStepsWriteOut : Prop :=
  ∀ (s t : State) (turn : Turn) (rest : List Turn) (a : Nat), Inv s → s.turns = turn :: rest → step s = .next t →
    turn ≠ .reset → t.outByte a ≠ s.outByte a →
    turn = .seq (some .ok) ∧ s.phase = .pixel ∧ a < s.lcfg.outPitch * s.lcfg.outH

/-- R33, R134: the sink log only grows, by one pair for each event emitted, with the answer the sink gave. -/
def Obligations.SinkLogGrowsByOneAnsweredEvent : Prop :=
  ∀ (s t : State) (turn : Turn) (rest : List Turn), s.turns = turn :: rest → step s = .next t →
    t.log = s.log ∨ ∃ ev a, turn = .seq (some a) ∧ t.log = s.log ++ [(ev, a)]

/-- R168, R55: what a sequencer step does is independent of the registers: it does the same whatever they hold, and
leaves them alone. -/
def Obligations.SequencerIgnoresTheRegisters : Prop :=
  ∀ (s : State) (r : Regs) (answer : Option Answer),
    sequencerTurn answer { s with regs := r } =
      andThen (sequencerTurn answer s) fun t => .next { t with regs := r }

/-- R41: row padding never matters: with any other contents of SRC that agree on the captured pixels, a sequencer
step does the same. -/
def Obligations.PaddingNeverReachesTheOutput : Prop :=
  ∀ (s : State) (m : Memory) (answer : Option Answer), Inv s →
    (∀ r k, r < s.lcfg.capH → k < s.lcfg.bpp * s.lcfg.capW →
      State.srcByte { s with src := m } (r * s.lcfg.pitch + k) = s.srcByte (r * s.lcfg.pitch + k)) →
    sequencerTurn answer { s with src := m } =
      andThen (sequencerTurn answer s) fun t => .next { t with src := m }

/-- R140 (which the spec marks "derived: from rules R124 to R132"), 93_implementation_defined.md entry 17: what
earlier runs left in `lcfg`, `j`, `i` and OUT makes no difference to what a START that begins a run does: the two
states after it differ in nothing but OUT. That the run then ignores that OUT is the next statement. -/
def Obligations.StartForgetsEarlierRuns : Prop :=
  ∀ (s : State) (c : RunConfig) (j i : Nat) (m : Memory) (d : Word) (t : State),
    d.getLsbD 0 = true → s.status.busy = false → exec (.wrCtrl d) s = .next t → t.status.busy = true →
    exec (.wrCtrl d) { s with lcfg := c, j := j, i := i, out := m } = .next { t with out := m }

/-- R140 (which the spec marks "derived: from rules R124 to R132"), R51: a run never depends on what OUT held before
it. During a run, with any other contents of OUT that agree on the bytes the run has written, every step of every
agent does the same: it stops alike, or the two next states differ in nothing but OUT (the same log, STATUS, phase,
`j` and `i`) and OUT agrees on the bytes written before the step and on those written after it. -/
def Obligations.RunIgnoresTheBytesOfOutItHasNotWritten : Prop :=
  ∀ (s : State) (m : Memory), Inv s → s.phase ≠ .idle → OutAgrees s m (written s) →
    match step s with
    | .next t => ∃ m' : Memory, step (withOut s m) = .next (withOut t m') ∧
        OutAgrees t m' (written s) ∧ OutAgrees t m' (written t)
    | .fault f => step (withOut s m) = .fault f
    | .refused r => step (withOut s m) = .refused r
end

