-- ==== Sys2Proof/Laws/Memory.lean ====
section
/-! SUPPORT. The laws of a window's contents: what a read after a write gives, that every write keeps the
canonical form, and that contents in canonical form are equal data when they read alike. -/

namespace Sys2Proof.Machine

@[simp] theorem Memory.read?_nil (a : Nat) : Memory.read? [] a = none := rfl

/-- Every offset listed after the first of a canonical memory lies above it. -/
theorem Memory.wf_cons {a : Nat} {v : Byte} {m : Memory} :
    Memory.wf ((a, v) :: m) ↔ (∀ cell ∈ m, a < cell.1) ∧ Memory.wf m := by
  simp [Memory.wf]

/-- An offset below every listed one reads as not written. -/
theorem Memory.read?_below {m : Memory} {a : Nat} (h : ∀ cell ∈ m, a < cell.1) : m.read? a = none := by
  induction m with
  | nil => rfl
  | cons cell t ih =>
    obtain ⟨b, v⟩ := cell
    have hb : a < b := h (b, v) (by simp)
    have ht := ih fun c hc => h c (by simp [hc])
    simp only [Memory.read?]
    rw [if_neg (by omega), ht]

theorem Memory.read?_write (m : Memory) (a : Nat) (v : Byte) (x : Nat) :
    (m.write a v).read? x = if x = a then some v else m.read? x := by
  induction m with
  | nil => simp [Memory.write, Memory.read?, eq_comm]
  | cons cell t ih =>
    obtain ⟨b, w⟩ := cell
    simp only [Memory.write]
    split
    · simp [Memory.read?, eq_comm]
    · split
      · subst_vars
        by_cases hx : x = b <;> simp [Memory.read?, hx, eq_comm]
      · simp only [Memory.read?, ih]
        by_cases hb : b = x <;> simp_all [eq_comm]

/-- A read after a write to the same place gives the value written. -/
@[simp] theorem Memory.read?_write_same (m : Memory) (a : Nat) (v : Byte) :
    (m.write a v).read? a = some v := by
  simp [Memory.read?_write]

/-- A write leaves every other place alone. -/
theorem Memory.read?_write_other (m : Memory) {a x : Nat} (v : Byte) (h : x ≠ a) :
    (m.write a v).read? x = m.read? x := by
  simp [Memory.read?_write, h]

theorem Memory.mem_write {m : Memory} {a : Nat} {v : Byte} {cell : Host.Cell} (h : cell ∈ m.write a v) :
    cell = (a, v) ∨ cell ∈ m := by
  induction m with
  | nil => simpa [Memory.write] using h
  | cons c t ih =>
    obtain ⟨b, w⟩ := c
    simp only [Memory.write] at h
    split at h
    · simpa using h
    · split at h
      · simp only [List.mem_cons] at h ⊢; tauto
      · simp only [List.mem_cons] at h ⊢
        rcases h with h | h
        · tauto
        · rcases ih h with h | h <;> tauto

/-- Writing a byte keeps the canonical form. -/
theorem Memory.wf_write {m : Memory} (a : Nat) (v : Byte) (h : m.wf) : (m.write a v).wf := by
  induction m with
  | nil => simp [Memory.write, Memory.wf]
  | cons c t ih =>
    obtain ⟨b, w⟩ := c
    rw [Memory.wf_cons] at h
    simp only [Memory.write]
    split
    · next hab =>
      rw [Memory.wf_cons]
      refine ⟨fun cell hc => ?_, Memory.wf_cons.mpr h⟩
      rcases List.mem_cons.mp hc with rfl | hc
      · exact hab
      · exact lt_trans hab (h.1 cell hc)
    · split
      · subst_vars; exact Memory.wf_cons.mpr h
      · rw [Memory.wf_cons]
        refine ⟨fun cell hc => ?_, ih h.2⟩
        rcases Memory.mem_write hc with rfl | hc
        · simp only; omega
        · exact h.1 cell hc

theorem Memory.wf_writeBytes {m : Memory} (a : Nat) (bs : List Byte) (h : m.wf) : (m.writeBytes a bs).wf := by
  induction bs generalizing m a with
  | nil => exact h
  | cons v t ih => exact ih (a + 1) (Memory.wf_write a v h)

theorem Memory.within_write {m : Memory} {a n : Nat} (v : Byte) (h : m.Within n) (ha : a < n) :
    (m.write a v).Within n := by
  intro cell hc
  rcases Memory.mem_write hc with rfl | hc
  · exact ha
  · exact h cell hc

/-- Writing bytes inside a window keeps the contents inside it. -/
theorem Memory.within_writeBytes {m : Memory} {a n : Nat} (bs : List Byte) (h : m.Within n)
    (ha : a + bs.length ≤ n) : (m.writeBytes a bs).Within n := by
  induction bs generalizing m a with
  | nil => exact h
  | cons v t ih =>
    simp only [List.length_cons] at ha
    exact ih (Memory.within_write v h (by omega)) (by omega)

/-- What every offset reads as after bytes are written from `a` on. -/
theorem Memory.read?_writeBytes (m : Memory) (a : Nat) (bs : List Byte) (x : Nat) :
    (m.writeBytes a bs).read? x =
      if a ≤ x ∧ x < a + bs.length then bs[x - a]? else m.read? x := by
  induction bs generalizing m a with
  | nil =>
    rw [if_neg (by simp only [List.length_nil]; omega)]; rfl
  | cons v t ih =>
    simp only [Memory.writeBytes, ih, Memory.read?_write, List.length_cons]
    by_cases hx : x = a
    · subst hx; simp
    · by_cases h1 : a + 1 ≤ x ∧ x < a + 1 + t.length
      · rw [if_pos h1, if_pos (by omega)]
        obtain ⟨k, hk⟩ : ∃ k, x - a = k + 1 := ⟨x - a - 1, by omega⟩
        rw [hk, List.getElem?_cons_succ]
        congr 1; omega
      · rw [if_neg h1, if_neg hx, if_neg (by omega)]

theorem Memory.read?_isSome_iff {m : Memory} {a : Nat} : (m.read? a).isSome ↔ ∃ v, (a, v) ∈ m := by
  induction m with
  | nil => simp
  | cons c t ih =>
    obtain ⟨b, w⟩ := c
    simp only [Memory.read?]
    split
    · subst_vars; simp only [Option.isSome_some, true_iff]; exact ⟨w, by simp⟩
    · next h => rw [ih]; simp [Ne.symm h]

/-- Equal memories are equal data: two canonical contents that read alike are the same list. -/
theorem Memory.eq_of_read?_eq {m m' : Memory} (h : m.wf) (h' : m'.wf)
    (heq : ∀ a, m.read? a = m'.read? a) : m = m' := by
  induction m generalizing m' with
  | nil =>
    cases m' with
    | nil => rfl
    | cons c t => simpa [Memory.read?] using heq c.1
  | cons c t ih =>
    obtain ⟨b, w⟩ := c
    cases m' with
    | nil => simpa [Memory.read?] using heq b
    | cons c' t' =>
      obtain ⟨b', w'⟩ := c'
      rw [Memory.wf_cons] at h h'
      have hb : b = b' := by
        have h1 := heq b
        have h2 := heq b'
        simp only [Memory.read?, if_true] at h1 h2
        by_contra hne
        rw [if_neg (Ne.symm hne)] at h1
        rw [if_neg hne] at h2
        have m1 := Memory.read?_isSome_iff.mp (by rw [← h1]; rfl)
        have m2 := Memory.read?_isSome_iff.mp (by rw [h2]; rfl)
        obtain ⟨_, m1⟩ := m1
        obtain ⟨_, m2⟩ := m2
        have := h'.1 _ m1
        have := h.1 _ m2
        simp only at *; omega
      subst hb
      have hw : w = w' := by simpa [Memory.read?] using heq b
      subst hw
      congr 1
      refine ih h.2 h'.2 fun a => ?_
      by_cases ha : b = a
      · subst ha
        rw [Memory.read?_below h.1, Memory.read?_below h'.1]
      · simpa [Memory.read?, ha] using heq a

end Sys2Proof.Machine
end

