-- ==== Sys2Proof/Laws/State.lean ====
section
/-! SUPPORT. What each update of the state leaves in each field, so that no proof unfolds a record update. -/

namespace Sys2Proof.Machine

/-! ### setRegs -/

@[simp] theorem State.setRegs_cfg (s : State) (r : Regs) : (s.setRegs r).cfg = s.cfg := rfl
@[simp] theorem State.setRegs_regs (s : State) (r : Regs) : (s.setRegs r).regs = r := rfl
@[simp] theorem State.setRegs_status (s : State) (r : Regs) : (s.setRegs r).status = s.status := rfl
@[simp] theorem State.setRegs_lcfg (s : State) (r : Regs) : (s.setRegs r).lcfg = s.lcfg := rfl
@[simp] theorem State.setRegs_phase (s : State) (r : Regs) : (s.setRegs r).phase = s.phase := rfl
@[simp] theorem State.setRegs_j (s : State) (r : Regs) : (s.setRegs r).j = s.j := rfl
@[simp] theorem State.setRegs_i (s : State) (r : Regs) : (s.setRegs r).i = s.i := rfl
@[simp] theorem State.setRegs_src (s : State) (r : Regs) : (s.setRegs r).src = s.src := rfl
@[simp] theorem State.setRegs_out (s : State) (r : Regs) : (s.setRegs r).out = s.out := rfl
@[simp] theorem State.setRegs_log (s : State) (r : Regs) : (s.setRegs r).log = s.log := rfl
@[simp] theorem State.setRegs_outEpoch (s : State) (r : Regs) : (s.setRegs r).outEpoch = s.outEpoch := rfl
@[simp] theorem State.setRegs_wires (s : State) (r : Regs) : (s.setRegs r).wires = s.wires := rfl
@[simp] theorem State.setRegs_reply (s : State) (r : Regs) : (s.setRegs r).reply = s.reply := rfl
@[simp] theorem State.setRegs_turns (s : State) (r : Regs) : (s.setRegs r).turns = s.turns := rfl

/-! ### setStatus -/

@[simp] theorem State.setStatus_cfg (s : State) (st : Status) : (s.setStatus st).cfg = s.cfg := rfl
@[simp] theorem State.setStatus_regs (s : State) (st : Status) : (s.setStatus st).regs = s.regs := rfl
@[simp] theorem State.setStatus_status (s : State) (st : Status) : (s.setStatus st).status = st := rfl
@[simp] theorem State.setStatus_lcfg (s : State) (st : Status) : (s.setStatus st).lcfg = s.lcfg := rfl
@[simp] theorem State.setStatus_phase (s : State) (st : Status) : (s.setStatus st).phase = s.phase := rfl
@[simp] theorem State.setStatus_j (s : State) (st : Status) : (s.setStatus st).j = s.j := rfl
@[simp] theorem State.setStatus_i (s : State) (st : Status) : (s.setStatus st).i = s.i := rfl
@[simp] theorem State.setStatus_src (s : State) (st : Status) : (s.setStatus st).src = s.src := rfl
@[simp] theorem State.setStatus_out (s : State) (st : Status) : (s.setStatus st).out = s.out := rfl
@[simp] theorem State.setStatus_log (s : State) (st : Status) : (s.setStatus st).log = s.log := rfl
@[simp] theorem State.setStatus_outEpoch (s : State) (st : Status) : (s.setStatus st).outEpoch = s.outEpoch := rfl
@[simp] theorem State.setStatus_wires (s : State) (st : Status) : (s.setStatus st).wires = s.wires := rfl
@[simp] theorem State.setStatus_reply (s : State) (st : Status) : (s.setStatus st).reply = s.reply := rfl
@[simp] theorem State.setStatus_turns (s : State) (st : Status) : (s.setStatus st).turns = s.turns := rfl

/-! ### setLcfg -/

@[simp] theorem State.setLcfg_cfg (s : State) (c : RunConfig) : (s.setLcfg c).cfg = s.cfg := rfl
@[simp] theorem State.setLcfg_regs (s : State) (c : RunConfig) : (s.setLcfg c).regs = s.regs := rfl
@[simp] theorem State.setLcfg_status (s : State) (c : RunConfig) : (s.setLcfg c).status = s.status := rfl
@[simp] theorem State.setLcfg_lcfg (s : State) (c : RunConfig) : (s.setLcfg c).lcfg = c := rfl
@[simp] theorem State.setLcfg_phase (s : State) (c : RunConfig) : (s.setLcfg c).phase = s.phase := rfl
@[simp] theorem State.setLcfg_j (s : State) (c : RunConfig) : (s.setLcfg c).j = s.j := rfl
@[simp] theorem State.setLcfg_i (s : State) (c : RunConfig) : (s.setLcfg c).i = s.i := rfl
@[simp] theorem State.setLcfg_src (s : State) (c : RunConfig) : (s.setLcfg c).src = s.src := rfl
@[simp] theorem State.setLcfg_out (s : State) (c : RunConfig) : (s.setLcfg c).out = s.out := rfl
@[simp] theorem State.setLcfg_log (s : State) (c : RunConfig) : (s.setLcfg c).log = s.log := rfl
@[simp] theorem State.setLcfg_outEpoch (s : State) (c : RunConfig) : (s.setLcfg c).outEpoch = s.outEpoch := rfl
@[simp] theorem State.setLcfg_wires (s : State) (c : RunConfig) : (s.setLcfg c).wires = s.wires := rfl
@[simp] theorem State.setLcfg_reply (s : State) (c : RunConfig) : (s.setLcfg c).reply = s.reply := rfl
@[simp] theorem State.setLcfg_turns (s : State) (c : RunConfig) : (s.setLcfg c).turns = s.turns := rfl

/-! ### setSeq -/

@[simp] theorem State.setSeq_cfg (s : State) (ph : Phase) (j i : Nat) : (s.setSeq ph j i).cfg = s.cfg := rfl
@[simp] theorem State.setSeq_regs (s : State) (ph : Phase) (j i : Nat) : (s.setSeq ph j i).regs = s.regs := rfl
@[simp] theorem State.setSeq_status (s : State) (ph : Phase) (j i : Nat) : (s.setSeq ph j i).status = s.status := rfl
@[simp] theorem State.setSeq_lcfg (s : State) (ph : Phase) (j i : Nat) : (s.setSeq ph j i).lcfg = s.lcfg := rfl
@[simp] theorem State.setSeq_phase (s : State) (ph : Phase) (j i : Nat) : (s.setSeq ph j i).phase = ph := rfl
@[simp] theorem State.setSeq_j (s : State) (ph : Phase) (j i : Nat) : (s.setSeq ph j i).j = j := rfl
@[simp] theorem State.setSeq_i (s : State) (ph : Phase) (j i : Nat) : (s.setSeq ph j i).i = i := rfl
@[simp] theorem State.setSeq_src (s : State) (ph : Phase) (j i : Nat) : (s.setSeq ph j i).src = s.src := rfl
@[simp] theorem State.setSeq_out (s : State) (ph : Phase) (j i : Nat) : (s.setSeq ph j i).out = s.out := rfl
@[simp] theorem State.setSeq_log (s : State) (ph : Phase) (j i : Nat) : (s.setSeq ph j i).log = s.log := rfl
@[simp] theorem State.setSeq_outEpoch (s : State) (ph : Phase) (j i : Nat) : (s.setSeq ph j i).outEpoch = s.outEpoch := rfl
@[simp] theorem State.setSeq_wires (s : State) (ph : Phase) (j i : Nat) : (s.setSeq ph j i).wires = s.wires := rfl
@[simp] theorem State.setSeq_reply (s : State) (ph : Phase) (j i : Nat) : (s.setSeq ph j i).reply = s.reply := rfl
@[simp] theorem State.setSeq_turns (s : State) (ph : Phase) (j i : Nat) : (s.setSeq ph j i).turns = s.turns := rfl

/-! ### setSrc -/

@[simp] theorem State.setSrc_cfg (s : State) (m : Memory) : (s.setSrc m).cfg = s.cfg := rfl
@[simp] theorem State.setSrc_regs (s : State) (m : Memory) : (s.setSrc m).regs = s.regs := rfl
@[simp] theorem State.setSrc_status (s : State) (m : Memory) : (s.setSrc m).status = s.status := rfl
@[simp] theorem State.setSrc_lcfg (s : State) (m : Memory) : (s.setSrc m).lcfg = s.lcfg := rfl
@[simp] theorem State.setSrc_phase (s : State) (m : Memory) : (s.setSrc m).phase = s.phase := rfl
@[simp] theorem State.setSrc_j (s : State) (m : Memory) : (s.setSrc m).j = s.j := rfl
@[simp] theorem State.setSrc_i (s : State) (m : Memory) : (s.setSrc m).i = s.i := rfl
@[simp] theorem State.setSrc_src (s : State) (m : Memory) : (s.setSrc m).src = m := rfl
@[simp] theorem State.setSrc_out (s : State) (m : Memory) : (s.setSrc m).out = s.out := rfl
@[simp] theorem State.setSrc_log (s : State) (m : Memory) : (s.setSrc m).log = s.log := rfl
@[simp] theorem State.setSrc_outEpoch (s : State) (m : Memory) : (s.setSrc m).outEpoch = s.outEpoch := rfl
@[simp] theorem State.setSrc_wires (s : State) (m : Memory) : (s.setSrc m).wires = s.wires := rfl
@[simp] theorem State.setSrc_reply (s : State) (m : Memory) : (s.setSrc m).reply = s.reply := rfl
@[simp] theorem State.setSrc_turns (s : State) (m : Memory) : (s.setSrc m).turns = s.turns := rfl

/-! ### setOut -/

@[simp] theorem State.setOut_cfg (s : State) (m : Memory) : (s.setOut m).cfg = s.cfg := rfl
@[simp] theorem State.setOut_regs (s : State) (m : Memory) : (s.setOut m).regs = s.regs := rfl
@[simp] theorem State.setOut_status (s : State) (m : Memory) : (s.setOut m).status = s.status := rfl
@[simp] theorem State.setOut_lcfg (s : State) (m : Memory) : (s.setOut m).lcfg = s.lcfg := rfl
@[simp] theorem State.setOut_phase (s : State) (m : Memory) : (s.setOut m).phase = s.phase := rfl
@[simp] theorem State.setOut_j (s : State) (m : Memory) : (s.setOut m).j = s.j := rfl
@[simp] theorem State.setOut_i (s : State) (m : Memory) : (s.setOut m).i = s.i := rfl
@[simp] theorem State.setOut_src (s : State) (m : Memory) : (s.setOut m).src = s.src := rfl
@[simp] theorem State.setOut_out (s : State) (m : Memory) : (s.setOut m).out = m := rfl
@[simp] theorem State.setOut_log (s : State) (m : Memory) : (s.setOut m).log = s.log := rfl
@[simp] theorem State.setOut_outEpoch (s : State) (m : Memory) : (s.setOut m).outEpoch = s.outEpoch := rfl
@[simp] theorem State.setOut_wires (s : State) (m : Memory) : (s.setOut m).wires = s.wires := rfl
@[simp] theorem State.setOut_reply (s : State) (m : Memory) : (s.setOut m).reply = s.reply := rfl
@[simp] theorem State.setOut_turns (s : State) (m : Memory) : (s.setOut m).turns = s.turns := rfl

/-! ### setWires -/

@[simp] theorem State.setWires_cfg (s : State) (w : Wires) : (s.setWires w).cfg = s.cfg := rfl
@[simp] theorem State.setWires_regs (s : State) (w : Wires) : (s.setWires w).regs = s.regs := rfl
@[simp] theorem State.setWires_status (s : State) (w : Wires) : (s.setWires w).status = s.status := rfl
@[simp] theorem State.setWires_lcfg (s : State) (w : Wires) : (s.setWires w).lcfg = s.lcfg := rfl
@[simp] theorem State.setWires_phase (s : State) (w : Wires) : (s.setWires w).phase = s.phase := rfl
@[simp] theorem State.setWires_j (s : State) (w : Wires) : (s.setWires w).j = s.j := rfl
@[simp] theorem State.setWires_i (s : State) (w : Wires) : (s.setWires w).i = s.i := rfl
@[simp] theorem State.setWires_src (s : State) (w : Wires) : (s.setWires w).src = s.src := rfl
@[simp] theorem State.setWires_out (s : State) (w : Wires) : (s.setWires w).out = s.out := rfl
@[simp] theorem State.setWires_log (s : State) (w : Wires) : (s.setWires w).log = s.log := rfl
@[simp] theorem State.setWires_outEpoch (s : State) (w : Wires) : (s.setWires w).outEpoch = s.outEpoch := rfl
@[simp] theorem State.setWires_wires (s : State) (w : Wires) : (s.setWires w).wires = w := rfl
@[simp] theorem State.setWires_reply (s : State) (w : Wires) : (s.setWires w).reply = s.reply := rfl
@[simp] theorem State.setWires_turns (s : State) (w : Wires) : (s.setWires w).turns = s.turns := rfl

/-! ### setReply -/

@[simp] theorem State.setReply_cfg (s : State) (r : Reply) : (s.setReply r).cfg = s.cfg := rfl
@[simp] theorem State.setReply_regs (s : State) (r : Reply) : (s.setReply r).regs = s.regs := rfl
@[simp] theorem State.setReply_status (s : State) (r : Reply) : (s.setReply r).status = s.status := rfl
@[simp] theorem State.setReply_lcfg (s : State) (r : Reply) : (s.setReply r).lcfg = s.lcfg := rfl
@[simp] theorem State.setReply_phase (s : State) (r : Reply) : (s.setReply r).phase = s.phase := rfl
@[simp] theorem State.setReply_j (s : State) (r : Reply) : (s.setReply r).j = s.j := rfl
@[simp] theorem State.setReply_i (s : State) (r : Reply) : (s.setReply r).i = s.i := rfl
@[simp] theorem State.setReply_src (s : State) (r : Reply) : (s.setReply r).src = s.src := rfl
@[simp] theorem State.setReply_out (s : State) (r : Reply) : (s.setReply r).out = s.out := rfl
@[simp] theorem State.setReply_log (s : State) (r : Reply) : (s.setReply r).log = s.log := rfl
@[simp] theorem State.setReply_outEpoch (s : State) (r : Reply) : (s.setReply r).outEpoch = s.outEpoch := rfl
@[simp] theorem State.setReply_wires (s : State) (r : Reply) : (s.setReply r).wires = s.wires := rfl
@[simp] theorem State.setReply_reply (s : State) (r : Reply) : (s.setReply r).reply = r := rfl
@[simp] theorem State.setReply_turns (s : State) (r : Reply) : (s.setReply r).turns = s.turns := rfl

/-! ### setTurns -/

@[simp] theorem State.setTurns_cfg (s : State) (ts : List Turn) : (s.setTurns ts).cfg = s.cfg := rfl
@[simp] theorem State.setTurns_regs (s : State) (ts : List Turn) : (s.setTurns ts).regs = s.regs := rfl
@[simp] theorem State.setTurns_status (s : State) (ts : List Turn) : (s.setTurns ts).status = s.status := rfl
@[simp] theorem State.setTurns_lcfg (s : State) (ts : List Turn) : (s.setTurns ts).lcfg = s.lcfg := rfl
@[simp] theorem State.setTurns_phase (s : State) (ts : List Turn) : (s.setTurns ts).phase = s.phase := rfl
@[simp] theorem State.setTurns_j (s : State) (ts : List Turn) : (s.setTurns ts).j = s.j := rfl
@[simp] theorem State.setTurns_i (s : State) (ts : List Turn) : (s.setTurns ts).i = s.i := rfl
@[simp] theorem State.setTurns_src (s : State) (ts : List Turn) : (s.setTurns ts).src = s.src := rfl
@[simp] theorem State.setTurns_out (s : State) (ts : List Turn) : (s.setTurns ts).out = s.out := rfl
@[simp] theorem State.setTurns_log (s : State) (ts : List Turn) : (s.setTurns ts).log = s.log := rfl
@[simp] theorem State.setTurns_outEpoch (s : State) (ts : List Turn) : (s.setTurns ts).outEpoch = s.outEpoch := rfl
@[simp] theorem State.setTurns_wires (s : State) (ts : List Turn) : (s.setTurns ts).wires = s.wires := rfl
@[simp] theorem State.setTurns_reply (s : State) (ts : List Turn) : (s.setTurns ts).reply = s.reply := rfl
@[simp] theorem State.setTurns_turns (s : State) (ts : List Turn) : (s.setTurns ts).turns = ts := rfl

/-! ### emit -/

@[simp] theorem State.emit_cfg (s : State) (ev : SinkEvent) (a : Answer) : (s.emit ev a).cfg = s.cfg := rfl
@[simp] theorem State.emit_regs (s : State) (ev : SinkEvent) (a : Answer) : (s.emit ev a).regs = s.regs := rfl
@[simp] theorem State.emit_status (s : State) (ev : SinkEvent) (a : Answer) : (s.emit ev a).status = s.status := rfl
@[simp] theorem State.emit_lcfg (s : State) (ev : SinkEvent) (a : Answer) : (s.emit ev a).lcfg = s.lcfg := rfl
@[simp] theorem State.emit_phase (s : State) (ev : SinkEvent) (a : Answer) : (s.emit ev a).phase = s.phase := rfl
@[simp] theorem State.emit_j (s : State) (ev : SinkEvent) (a : Answer) : (s.emit ev a).j = s.j := rfl
@[simp] theorem State.emit_i (s : State) (ev : SinkEvent) (a : Answer) : (s.emit ev a).i = s.i := rfl
@[simp] theorem State.emit_src (s : State) (ev : SinkEvent) (a : Answer) : (s.emit ev a).src = s.src := rfl
@[simp] theorem State.emit_out (s : State) (ev : SinkEvent) (a : Answer) : (s.emit ev a).out = s.out := rfl
@[simp] theorem State.emit_log (s : State) (ev : SinkEvent) (a : Answer) : (s.emit ev a).log = s.log ++ [(ev, a)] := rfl
@[simp] theorem State.emit_outEpoch (s : State) (ev : SinkEvent) (a : Answer) : (s.emit ev a).outEpoch = s.outEpoch := rfl
@[simp] theorem State.emit_wires (s : State) (ev : SinkEvent) (a : Answer) : (s.emit ev a).wires = s.wires := rfl
@[simp] theorem State.emit_reply (s : State) (ev : SinkEvent) (a : Answer) : (s.emit ev a).reply = s.reply := rfl
@[simp] theorem State.emit_turns (s : State) (ev : SinkEvent) (a : Answer) : (s.emit ev a).turns = s.turns := rfl

/-! ### busReply -/

@[simp] theorem State.busReply_cfg (s : State) (v : Word) : (s.busReply v).cfg = s.cfg := rfl
@[simp] theorem State.busReply_regs (s : State) (v : Word) : (s.busReply v).regs = s.regs := rfl
@[simp] theorem State.busReply_status (s : State) (v : Word) : (s.busReply v).status = s.status := rfl
@[simp] theorem State.busReply_lcfg (s : State) (v : Word) : (s.busReply v).lcfg = s.lcfg := rfl
@[simp] theorem State.busReply_phase (s : State) (v : Word) : (s.busReply v).phase = s.phase := rfl
@[simp] theorem State.busReply_j (s : State) (v : Word) : (s.busReply v).j = s.j := rfl
@[simp] theorem State.busReply_i (s : State) (v : Word) : (s.busReply v).i = s.i := rfl
@[simp] theorem State.busReply_src (s : State) (v : Word) : (s.busReply v).src = s.src := rfl
@[simp] theorem State.busReply_out (s : State) (v : Word) : (s.busReply v).out = s.out := rfl
@[simp] theorem State.busReply_log (s : State) (v : Word) : (s.busReply v).log = s.log := rfl
@[simp] theorem State.busReply_outEpoch (s : State) (v : Word) : (s.busReply v).outEpoch = s.outEpoch := rfl
@[simp] theorem State.busReply_wires (s : State) (v : Word) : (s.busReply v).wires = s.wires := rfl
@[simp] theorem State.busReply_reply (s : State) (v : Word) : (s.busReply v).reply = .word v := rfl
@[simp] theorem State.busReply_turns (s : State) (v : Word) : (s.busReply v).turns = s.turns := rfl

/-! ### enterError -/

@[simp] theorem State.enterError_cfg (s : State) (e : ErrCode) : (s.enterError e).cfg = s.cfg := rfl
@[simp] theorem State.enterError_regs (s : State) (e : ErrCode) : (s.enterError e).regs = s.regs := rfl
@[simp] theorem State.enterError_status (s : State) (e : ErrCode) : (s.enterError e).status = s.status.errored e := rfl
@[simp] theorem State.enterError_lcfg (s : State) (e : ErrCode) : (s.enterError e).lcfg = s.lcfg := rfl
@[simp] theorem State.enterError_phase (s : State) (e : ErrCode) : (s.enterError e).phase = .idle := rfl
@[simp] theorem State.enterError_j (s : State) (e : ErrCode) : (s.enterError e).j = s.j := rfl
@[simp] theorem State.enterError_i (s : State) (e : ErrCode) : (s.enterError e).i = s.i := rfl
@[simp] theorem State.enterError_src (s : State) (e : ErrCode) : (s.enterError e).src = s.src := rfl
@[simp] theorem State.enterError_out (s : State) (e : ErrCode) : (s.enterError e).out = s.out := rfl
@[simp] theorem State.enterError_log (s : State) (e : ErrCode) : (s.enterError e).log = s.log := rfl
@[simp] theorem State.enterError_outEpoch (s : State) (e : ErrCode) : (s.enterError e).outEpoch = s.outEpoch := rfl
@[simp] theorem State.enterError_wires (s : State) (e : ErrCode) : (s.enterError e).wires = s.wires := rfl
@[simp] theorem State.enterError_reply (s : State) (e : ErrCode) : (s.enterError e).reply = s.reply := rfl
@[simp] theorem State.enterError_turns (s : State) (e : ErrCode) : (s.enterError e).turns = s.turns := rfl

/-! ### failStart -/

@[simp] theorem State.failStart_cfg (s : State) (e : ErrCode) : (s.failStart e).cfg = s.cfg := rfl
@[simp] theorem State.failStart_regs (s : State) (e : ErrCode) : (s.failStart e).regs = s.regs := rfl
@[simp] theorem State.failStart_status (s : State) (e : ErrCode) : (s.failStart e).status = s.status.refusedStart e := rfl
@[simp] theorem State.failStart_lcfg (s : State) (e : ErrCode) : (s.failStart e).lcfg = s.lcfg := rfl
@[simp] theorem State.failStart_phase (s : State) (e : ErrCode) : (s.failStart e).phase = s.phase := rfl
@[simp] theorem State.failStart_j (s : State) (e : ErrCode) : (s.failStart e).j = s.j := rfl
@[simp] theorem State.failStart_i (s : State) (e : ErrCode) : (s.failStart e).i = s.i := rfl
@[simp] theorem State.failStart_src (s : State) (e : ErrCode) : (s.failStart e).src = s.src := rfl
@[simp] theorem State.failStart_out (s : State) (e : ErrCode) : (s.failStart e).out = s.out := rfl
@[simp] theorem State.failStart_log (s : State) (e : ErrCode) : (s.failStart e).log = s.log := rfl
@[simp] theorem State.failStart_outEpoch (s : State) (e : ErrCode) : (s.failStart e).outEpoch = s.outEpoch := rfl
@[simp] theorem State.failStart_wires (s : State) (e : ErrCode) : (s.failStart e).wires = s.wires := rfl
@[simp] theorem State.failStart_reply (s : State) (e : ErrCode) : (s.failStart e).reply = s.reply := rfl
@[simp] theorem State.failStart_turns (s : State) (e : ErrCode) : (s.failStart e).turns = s.turns := rfl

/-! ### beginRun -/

@[simp] theorem State.beginRun_cfg (s : State) : (s.beginRun).cfg = s.cfg := rfl
@[simp] theorem State.beginRun_regs (s : State) : (s.beginRun).regs = s.regs := rfl
@[simp] theorem State.beginRun_status (s : State) : (s.beginRun).status = s.status.begun s.lcfg.alphaOut := rfl
@[simp] theorem State.beginRun_lcfg (s : State) : (s.beginRun).lcfg = s.lcfg := rfl
@[simp] theorem State.beginRun_phase (s : State) : (s.beginRun).phase = .header := rfl
@[simp] theorem State.beginRun_j (s : State) : (s.beginRun).j = 0 := rfl
@[simp] theorem State.beginRun_i (s : State) : (s.beginRun).i = 0 := rfl
@[simp] theorem State.beginRun_src (s : State) : (s.beginRun).src = s.src := rfl
@[simp] theorem State.beginRun_out (s : State) : (s.beginRun).out = s.out := rfl
@[simp] theorem State.beginRun_log (s : State) : (s.beginRun).log = s.log := rfl
@[simp] theorem State.beginRun_outEpoch (s : State) : (s.beginRun).outEpoch = s.outEpoch := rfl
@[simp] theorem State.beginRun_wires (s : State) : (s.beginRun).wires = s.wires := rfl
@[simp] theorem State.beginRun_reply (s : State) : (s.beginRun).reply = s.reply := rfl
@[simp] theorem State.beginRun_turns (s : State) : (s.beginRun).turns = s.turns := rfl

/-! ### advancePixel and advanceRow (what they leave; where they go: Laws/Ops.lean) -/

@[simp] theorem State.advancePixel_cfg (s : State) : s.advancePixel.cfg = s.cfg := by
  unfold State.advancePixel; split <;> rfl
@[simp] theorem State.advancePixel_regs (s : State) : s.advancePixel.regs = s.regs := by
  unfold State.advancePixel; split <;> rfl
@[simp] theorem State.advancePixel_status (s : State) : s.advancePixel.status = s.status := by
  unfold State.advancePixel; split <;> rfl
@[simp] theorem State.advancePixel_lcfg (s : State) : s.advancePixel.lcfg = s.lcfg := by
  unfold State.advancePixel; split <;> rfl
@[simp] theorem State.advancePixel_src (s : State) : s.advancePixel.src = s.src := by
  unfold State.advancePixel; split <;> rfl
@[simp] theorem State.advancePixel_out (s : State) : s.advancePixel.out = s.out := by
  unfold State.advancePixel; split <;> rfl
@[simp] theorem State.advancePixel_log (s : State) : s.advancePixel.log = s.log := by
  unfold State.advancePixel; split <;> rfl
@[simp] theorem State.advancePixel_outEpoch (s : State) : s.advancePixel.outEpoch = s.outEpoch := by
  unfold State.advancePixel; split <;> rfl
@[simp] theorem State.advancePixel_wires (s : State) : s.advancePixel.wires = s.wires := by
  unfold State.advancePixel; split <;> rfl
@[simp] theorem State.advancePixel_reply (s : State) : s.advancePixel.reply = s.reply := by
  unfold State.advancePixel; split <;> rfl
@[simp] theorem State.advancePixel_turns (s : State) : s.advancePixel.turns = s.turns := by
  unfold State.advancePixel; split <;> rfl

@[simp] theorem State.advanceRow_cfg (s : State) : s.advanceRow.cfg = s.cfg := by
  unfold State.advanceRow; split <;> rfl
@[simp] theorem State.advanceRow_regs (s : State) : s.advanceRow.regs = s.regs := by
  unfold State.advanceRow; split <;> rfl
@[simp] theorem State.advanceRow_status (s : State) : s.advanceRow.status = s.status := by
  unfold State.advanceRow; split <;> rfl
@[simp] theorem State.advanceRow_lcfg (s : State) : s.advanceRow.lcfg = s.lcfg := by
  unfold State.advanceRow; split <;> rfl
@[simp] theorem State.advanceRow_src (s : State) : s.advanceRow.src = s.src := by
  unfold State.advanceRow; split <;> rfl
@[simp] theorem State.advanceRow_out (s : State) : s.advanceRow.out = s.out := by
  unfold State.advanceRow; split <;> rfl
@[simp] theorem State.advanceRow_log (s : State) : s.advanceRow.log = s.log := by
  unfold State.advanceRow; split <;> rfl
@[simp] theorem State.advanceRow_outEpoch (s : State) : s.advanceRow.outEpoch = s.outEpoch := by
  unfold State.advanceRow; split <;> rfl
@[simp] theorem State.advanceRow_wires (s : State) : s.advanceRow.wires = s.wires := by
  unfold State.advanceRow; split <;> rfl
@[simp] theorem State.advanceRow_reply (s : State) : s.advanceRow.reply = s.reply := by
  unfold State.advanceRow; split <;> rfl
@[simp] theorem State.advanceRow_turns (s : State) : s.advanceRow.turns = s.turns := by
  unfold State.advanceRow; split <;> rfl

@[simp] theorem State.advancePixel_j (s : State) : s.advancePixel.j = s.j := by
  unfold State.advancePixel; split <;> rfl

/-! ### applyReset -/

@[simp] theorem applyReset_cfg (s : State) : (applyReset s).cfg = s.cfg := rfl
@[simp] theorem applyReset_regs (s : State) : (applyReset s).regs = Regs.reset := rfl
@[simp] theorem applyReset_status (s : State) : (applyReset s).status = Status.reset := rfl
@[simp] theorem applyReset_lcfg (s : State) : (applyReset s).lcfg = RunConfig.reset := rfl
@[simp] theorem applyReset_phase (s : State) : (applyReset s).phase = .idle := rfl
@[simp] theorem applyReset_j (s : State) : (applyReset s).j = 0 := rfl
@[simp] theorem applyReset_i (s : State) : (applyReset s).i = 0 := rfl
@[simp] theorem applyReset_src (s : State) : (applyReset s).src = s.src := rfl
@[simp] theorem applyReset_out (s : State) : (applyReset s).out = [] := rfl
@[simp] theorem applyReset_log (s : State) : (applyReset s).log = s.log := rfl
@[simp] theorem applyReset_outEpoch (s : State) : (applyReset s).outEpoch = s.outEpoch + 1 := rfl
@[simp] theorem applyReset_wires (s : State) : (applyReset s).wires = Wires.idle := rfl
@[simp] theorem applyReset_reply (s : State) : (applyReset s).reply = s.reply := rfl
@[simp] theorem applyReset_turns (s : State) : (applyReset s).turns = s.turns := rfl

/-! ### Status -/

@[simp] theorem Status.cleared_busy (st : Status) : (Status.cleared st).busy = st.busy := rfl
@[simp] theorem Status.cleared_done (st : Status) : (Status.cleared st).done = false := rfl
@[simp] theorem Status.cleared_err (st : Status) : (Status.cleared st).err = false := rfl
@[simp] theorem Status.cleared_outRgba (st : Status) : (Status.cleared st).outRgba = st.outRgba := rfl
@[simp] theorem Status.cleared_errCode (st : Status) : (Status.cleared st).errCode = .noError := rfl
@[simp] theorem Status.errored_busy (e : ErrCode) (st : Status) : (Status.errored e st).busy = false := rfl
@[simp] theorem Status.errored_done (e : ErrCode) (st : Status) : (Status.errored e st).done = false := rfl
@[simp] theorem Status.errored_err (e : ErrCode) (st : Status) : (Status.errored e st).err = true := rfl
@[simp] theorem Status.errored_outRgba (e : ErrCode) (st : Status) : (Status.errored e st).outRgba = st.outRgba := rfl
@[simp] theorem Status.errored_errCode (e : ErrCode) (st : Status) : (Status.errored e st).errCode = e := rfl
@[simp] theorem Status.refusedStart_busy (e : ErrCode) (st : Status) : (Status.refusedStart e st).busy = false := rfl
@[simp] theorem Status.refusedStart_done (e : ErrCode) (st : Status) : (Status.refusedStart e st).done = false := rfl
@[simp] theorem Status.refusedStart_err (e : ErrCode) (st : Status) : (Status.refusedStart e st).err = true := rfl
@[simp] theorem Status.refusedStart_outRgba (e : ErrCode) (st : Status) : (Status.refusedStart e st).outRgba = false := rfl
@[simp] theorem Status.refusedStart_errCode (e : ErrCode) (st : Status) : (Status.refusedStart e st).errCode = e := rfl
@[simp] theorem Status.begun_busy (rgba : Bool) (st : Status) : (Status.begun rgba st).busy = true := rfl
@[simp] theorem Status.begun_done (rgba : Bool) (st : Status) : (Status.begun rgba st).done = st.done := rfl
@[simp] theorem Status.begun_err (rgba : Bool) (st : Status) : (Status.begun rgba st).err = st.err := rfl
@[simp] theorem Status.begun_outRgba (rgba : Bool) (st : Status) : (Status.begun rgba st).outRgba = rgba := rfl
@[simp] theorem Status.begun_errCode (rgba : Bool) (st : Status) : (Status.begun rgba st).errCode = st.errCode := rfl
@[simp] theorem Status.finished_busy (st : Status) : (Status.finished st).busy = false := rfl
@[simp] theorem Status.finished_done (st : Status) : (Status.finished st).done = true := rfl
@[simp] theorem Status.finished_err (st : Status) : (Status.finished st).err = st.err := rfl
@[simp] theorem Status.finished_outRgba (st : Status) : (Status.finished st).outRgba = st.outRgba := rfl
@[simp] theorem Status.finished_errCode (st : Status) : (Status.finished st).errCode = st.errCode := rfl

end Sys2Proof.Machine
end

