-- ==== Sys2Proof/Laws/Ops.lean ====
section
/-! SUPPORT. One lemma per shared operation that says once everything it can do. -/

namespace Sys2Proof.Machine

/-! ### Going on after a next state -/

theorem andThen_eq_next {o : Host.Outcome State Fault Refusal}
    {f : State → Host.Outcome State Fault Refusal} {t : State} :
    andThen o f = .next t ↔ ∃ s, o = .next s ∧ f s = .next t := by
  cases o <;> simp [andThen]

@[simp] theorem andThen_next (s : State) (f : State → Host.Outcome State Fault Refusal) :
    andThen (.next s) f = f s := rfl

/-! ### The windows -/

theorem State.memRead_eq_some {s : State} {off n : Nat} {bs : List Byte} :
    s.memRead off n = some bs ↔
      off + n ≤ s.cfg.srcWindowBytes ∧ bs = (List.range n).map fun k => s.srcByte (off + k) := by
  unfold State.memRead
  split <;> simp_all [eq_comm]

theorem State.outRange_eq_some {s : State} {off n : Nat} {bs : List Byte} :
    s.outRange off n = some bs ↔
      off + n ≤ s.cfg.outWindowBytes ∧ bs = (List.range n).map fun k => s.outByte (off + k) := by
  unfold State.outRange
  split <;> simp_all [eq_comm]

theorem State.memWrite_eq_some {s t : State} {off : Nat} {bs : List Byte} :
    s.memWrite off bs = some t ↔
      off + bs.length ≤ s.cfg.outWindowBytes ∧ t = s.setOut (s.out.writeBytes off bs) := by
  unfold State.memWrite
  split <;> simp_all [eq_comm]

theorem State.memRead_length {s : State} {off n : Nat} {bs : List Byte} (h : s.memRead off n = some bs) :
    bs.length = n := by
  simp [(State.memRead_eq_some.mp h).2]

/-- The bytes of SRC depend on what the host has loaded, on nothing else of the state. -/
theorem State.srcByte_congr {s t : State} (h : s.src = t.src) (a : Nat) : s.srcByte a = t.srcByte a := by
  simp [State.srcByte, h]

/-- The bytes of OUT depend on what was written since the last reset, on nothing else of the state. -/
theorem State.outByte_congr {s t : State} (h : s.out = t.out) (he : s.outEpoch = t.outEpoch) (a : Nat) :
    s.outByte a = t.outByte a := by
  simp [State.outByte, h, he]

/-- What every byte of OUT reads as after bytes are written from `off` on. -/
theorem State.outByte_setOut_writeBytes (s : State) (off : Nat) (bs : List Byte) (a : Nat) :
    (s.setOut (s.out.writeBytes off bs)).outByte a =
      if off ≤ a ∧ a < off + bs.length then (bs[a - off]?).getD (Config.outFreeByte s.outEpoch a)
      else s.outByte a := by
  simp only [State.outByte, State.setOut_out, State.setOut_outEpoch, Memory.read?_writeBytes]
  split <;> rfl

/-- A range of OUT depends on its bytes and on the size of the window, on nothing else of the state. -/
theorem State.outRange_congr {s t : State} {off n : Nat} (hc : s.cfg = t.cfg)
    (h : ∀ a, off ≤ a → a < off + n → s.outByte a = t.outByte a) : s.outRange off n = t.outRange off n := by
  unfold State.outRange
  rw [hc]
  have hm : (List.range n).map (fun k => s.outByte (off + k)) = (List.range n).map (fun k => t.outByte (off + k)) :=
    List.map_congr_left fun k hk => h _ (by omega) (by have := List.mem_range.mp hk; omega)
  rw [hm]

/-! ### The mapper and the converter -/

theorem runMapper_eq_next {k : MapClass} {s t : State} :
    runMapper k s = .next t ↔
      MapDomain (classOdd k) s.lcfg s.i s.j ∧
      t = s.setWires { s.wires with
        srcCol := (classPos k s.lcfg s.i s.j).1
        srcRow := (classPos k s.lcfg s.i s.j).2
        srcOff := pixelOffset s.lcfg (classPos k s.lcfg s.i s.j).1 (classPos k s.lcfg s.i s.j).2 } := by
  unfold runMapper
  split
  · next h => exact ⟨fun e => by cases e; exact ⟨h, rfl⟩, fun e => by rw [e.2]⟩
  · next h => exact ⟨fun e => (nomatch e), fun e => absurd e.1 h⟩

theorem runConverter_eq_next {f : List Byte → Option (List Byte)} {s t : State} :
    runConverter f s = .next t ↔
      ∃ px, f s.wires.bytes = some px ∧ t = s.setWires { s.wires with pixel := px } := by
  unfold runConverter
  split
  · next px h => exact ⟨fun e => by cases e; exact ⟨px, h, rfl⟩, fun ⟨px', h', e⟩ => by
      rw [h] at h'; cases h'; rw [e]⟩
  · next h => exact ⟨fun e => (nomatch e), fun ⟨px', h', _⟩ => by rw [h] at h'; cases h'⟩

/-- A latched conversion runs the conversion R76 names. -/
theorem exec_cvtInstr (op : CvtOp) (s : State) : exec (cvtInstr op) s = runConverter (convert s.cfg op) s := by
  cases op <;> rfl

/-- How many bytes a conversion takes. -/
def operandLength (op : CvtOp) : Nat :=
  match op with
  | .rgb565 | .rgba4444Rgba | .rgba4444Rgb => 2
  | .rgb888 => 3
  | .rgba8888Rgba | .rgba8888Rgb => 4

/-- How many bytes a conversion gives. -/
def resultLength (op : CvtOp) : Nat :=
  match op with
  | .rgb565 | .rgba4444Rgb | .rgb888 | .rgba8888Rgb => 3
  | .rgba4444Rgba | .rgba8888Rgba => 4

theorem convert_length {p : Params} {op : CvtOp} {bytes px : List Byte} (h : convert p op bytes = some px) :
    px.length = resultLength op := by
  cases op <;>
    simp only [convert, convertRgb565, convertRgba4444Rgba, convertRgba4444Rgb, convertRgb888,
      convertRgba8888Rgba, convertRgba8888Rgb] at h <;>
    split at h <;> cases h <;> rfl

/-- R90: a conversion of an operand of its format's length always answers. -/
theorem convert_isSome {p : Params} {op : CvtOp} {bytes : List Byte} (h : bytes.length = operandLength op) :
    ∃ px, convert p op bytes = some px := by
  cases op <;> simp only [operandLength] at h
  case rgb888 =>
    obtain ⟨a, b, c, rfl⟩ := List.length_eq_three.mp h
    exact ⟨_, rfl⟩
  case rgba8888Rgba =>
    match bytes, h with
    | [a, b, c, d], _ => exact ⟨_, rfl⟩
  case rgba8888Rgb =>
    match bytes, h with
    | [a, b, c, d], _ => exact ⟨_, rfl⟩
  all_goals
    obtain ⟨a, b, rfl⟩ := List.length_eq_two.mp h
    exact ⟨_, rfl⟩

theorem operandLength_cvtOpOf (fmt : PixelFormat) (a : Bool) : operandLength (cvtOpOf fmt a) = bppOf fmt := by
  cases fmt <;> cases a <;> rfl

theorem resultLength_cvtOpOf {fmt : PixelFormat} {a : Bool} (h : a = true → hasAlpha fmt = true) :
    resultLength (cvtOpOf fmt a) = nchOf a := by
  cases fmt <;> cases a <;> simp_all [hasAlpha, cvtOpOf, resultLength, nchOf]

/-- R70 reads only the part of ALPHA_REQ that R83 keeps. -/
theorem cvtOpOf_alphaOutOf (fmt : PixelFormat) (a : Bool) : cvtOpOf fmt (alphaOutOf fmt a) = cvtOpOf fmt a := by
  cases fmt <;> cases a <;> rfl

/-! ### START -/

theorem checkConfig_eq_noError {p : Params} {r : Regs} (h : checkConfig p r = .noError) :
    ∃ fmt, formatOfCode r.format = some fmt ∧ ¬ BadTransform p r ∧ ¬ BadDimension r ∧
      bppOf fmt * r.capWidth.toNat ≤ r.capPitch.toNat ∧
      pitchAligned p (bppOf fmt) r.capPitch.toNat = true ∧
      r.capPitch.toNat * r.capHeight.toNat ≤ p.srcWindowBytes ∧
      nchOf (alphaOutOf fmt r.alphaReq) * r.outWidth.toNat * r.outHeight.toNat ≤ p.outWindowBytes := by
  unfold checkConfig at h
  cases hf : formatOfCode r.format with
  | none => rw [hf] at h; cases h
  | some fmt =>
    rw [hf] at h
    simp only at h
    split at h
    · cases h
    · split at h
      · cases h
      · split at h
        · cases h
        · split at h
          · cases h
          · split at h
            · cases h
            · split at h
              · cases h
              · exact ⟨fmt, rfl, ‹_›, ‹_›, by omega, by simp_all, by omega, by omega⟩

/-- An accepted START either refuses with the code its check answers, or latches and begins a run. -/
theorem State.start_cases (s : State) :
    (∃ e, e ≠ .noError ∧ checkConfig s.cfg s.regs = e ∧ s.start = (s.setStatus s.status.cleared).failStart e) ∨
    (∃ fmt, formatOfCode s.regs.format = some fmt ∧ checkConfig s.cfg s.regs = .noError ∧
      s.start = ((s.setStatus s.status.cleared).setLcfg (latchConfig fmt s.regs)).beginRun) := by
  by_cases he : checkConfig s.cfg s.regs = .noError
  · obtain ⟨fmt, hf, -⟩ := checkConfig_eq_noError he
    exact .inr ⟨fmt, hf, he, by simp [State.start, he, hf]⟩
  · refine .inl ⟨_, he, rfl, ?_⟩
    unfold State.start
    split
    · next h _ => exact absurd h he
    · rfl

/-- A CTRL write stores ALPHA_REQ and, with START set and no run in progress, starts. -/
theorem State.writeCtrl_cases (s : State) (d : Word) :
    (s.writeCtrl d = s.setRegs { s.regs with alphaReq := d.getLsbD 1 } ∧
      (d.getLsbD 0 = false ∨ s.status.busy = true)) ∨
    (s.writeCtrl d = (s.setRegs { s.regs with alphaReq := d.getLsbD 1 }).start ∧
      d.getLsbD 0 = true ∧ s.status.busy = false) := by
  unfold State.writeCtrl
  cases d.getLsbD 0 <;> cases hb : s.status.busy <;> simp [hb]

/-! ### The turns -/

/-- A register access is a reply, nothing, a register write, or a CTRL write. -/
theorem exec_bus_cases {sel : BitVec 9} {d : Word} {i : Instr} (hi : decodeBus sel d = .ok i) (s : State) :
    (∃ v, exec i s = .next (s.busReply v)) ∨ exec i s = .next s ∨
    (∃ r, exec i s = .next (s.setRegs r) ∧ r.alphaReq = s.regs.alphaReq) ∨
    (∃ w, i = .wrCtrl w ∧ exec i s = .next (s.writeCtrl w)) := by
  unfold decodeBus at hi
  simp only at hi
  split at hi
  · have hi := Except.ok.inj hi
    subst hi
    split
    · unfold decodeWrite
      split <;>
        first
        | exact .inr (.inl rfl)
        | exact .inr (.inr (.inl ⟨_, rfl, rfl⟩))
        | exact .inr (.inr (.inr ⟨_, rfl, rfl⟩))
    · unfold decodeRead
      split <;> exact .inl ⟨_, rfl⟩
  · cases hi

theorem busTurn_eq_next {sel : BitVec 9} {d : Word} {s t : State} (h : busTurn sel d s = .next t) :
    ∃ i, decodeBus sel d = .ok i ∧ exec i s = .next t := by
  unfold busTurn at h
  split at h
  · exact ⟨_, ‹_›, h⟩
  · cases h

theorem loadSrcTurn_eq_next {off : Nat} {bytes : List Byte} {s t : State} :
    loadSrcTurn off bytes s = .next t ↔
      s.status.busy = false ∧ off + bytes.length ≤ s.cfg.srcWindowBytes ∧
      t = s.setSrc (s.src.writeBytes off bytes) := by
  unfold loadSrcTurn
  split
  · next hb => exact ⟨fun e => (nomatch e), fun e => absurd e.1 (by simp [hb])⟩
  · next hb =>
    have hb : s.status.busy = false := by simpa using hb
    split
    · next hl => exact ⟨fun e => by cases e; exact ⟨hb, hl, rfl⟩, fun e => by rw [e.2.2]⟩
    · next hl => exact ⟨fun e => (nomatch e), fun e => absurd e.2.1 hl⟩

theorem rdOutTurn_eq_next {off n : Nat} {s t : State} :
    rdOutTurn off n s = .next t ↔
      s.status.busy = false ∧ off + n ≤ s.cfg.outWindowBytes ∧
      t = s.setReply (.bytes ((List.range n).map fun k => s.outByte (off + k))) := by
  unfold rdOutTurn
  split
  · next hb => exact ⟨fun e => (nomatch e), fun e => absurd e.1 (by simp [hb])⟩
  · next hb =>
    have hb : s.status.busy = false := by simpa using hb
    unfold State.outRange
    split
    · next hl =>
      split at hl
      · next hle =>
        cases hl
        exact ⟨fun e => by cases e; exact ⟨hb, hle, rfl⟩, fun e => by rw [e.2.2]⟩
      · cases hl
    · next hl =>
      split at hl
      · cases hl
      · next hle => exact ⟨fun e => (nomatch e), fun e => absurd e.2.1 hle⟩

/-- A sequencer turn that goes on had an answer and ran the rule its phase selects. -/
theorem sequencerTurn_eq_next {answer : Option Answer} {s t : State} :
    sequencerTurn answer s = .next t ↔
      ∃ a, answer = some a ∧ s.phase ≠ .idle ∧ phaseStep a s = .next t := by
  unfold sequencerTurn
  cases hp : s.phase <;> cases answer <;> simp [phaseStep, hp]

/-- What a step that goes on did: the turn it took, from the state without that turn. -/
theorem step_eq_next {s t : State} :
    step s = .next t ↔ ∃ turn rest, s.turns = turn :: rest ∧ runTurn turn (s.setTurns rest) = .next t := by
  unfold step
  cases s.turns <;> simp

/-! ### The sequencer's rules -/

theorem headerStep_cases (a : Answer) (s : State) :
    (a = .ok ∧ headerStep a s = (s.emit (headerEvent s.lcfg) .ok).setSeq .pixel s.j s.i) ∨
    (a = .error ∧ headerStep a s = (s.emit (headerEvent s.lcfg) .error).enterError .sinkError) := by
  cases a
  · exact .inl ⟨rfl, rfl⟩
  · exact .inr ⟨rfl, rfl⟩

theorem finalStep_cases (a : Answer) (s : State) :
    (a = .ok ∧ finalStep a s =
      ((s.emit .final .ok).setStatus s.status.finished).setSeq .idle s.j s.i) ∨
    (a = .error ∧ finalStep a s = (s.emit .final .error).enterError .sinkError) := by
  cases a
  · exact .inl ⟨rfl, rfl⟩
  · exact .inr ⟨rfl, rfl⟩

theorem rowemitStep_eq_next {a : Answer} {s t : State} (h : rowemitStep a s = .next t) :
    ∃ bytes, s.outRange (s.j * s.lcfg.outPitch) s.lcfg.outPitch = some bytes ∧
      ((a = .ok ∧ t = (s.emit (.row s.j bytes) .ok).advanceRow) ∨
       (a = .error ∧ t = (s.emit (.row s.j bytes) .error).enterError .sinkError)) := by
  unfold rowemitStep at h
  split at h
  · cases h
  · next bytes hb =>
    refine ⟨bytes, hb, ?_⟩
    cases a <;> simp_all

theorem writePixel_eq_next {s t : State} (h : writePixel s = .next t) :
    s.wires.pixel.length = s.lcfg.nch ∧ s.outOffset + s.lcfg.nch ≤ s.cfg.outWindowBytes ∧
      t = ((s.setOut (s.out.writeBytes s.outOffset s.wires.pixel)).setWires Wires.idle).advancePixel := by
  unfold writePixel at h
  split at h
  · next hl =>
    split at h
    · next s1 hw =>
      obtain ⟨hle, rfl⟩ := State.memWrite_eq_some.mp hw
      exact ⟨hl, hl ▸ hle, by cases h; rfl⟩
    · cases h
  · cases h

theorem State.advancePixel_cases (s : State) :
    (s.i + 1 < s.lcfg.outW ∧ s.advancePixel = s.setSeq .pixel s.j (s.i + 1)) ∨
    (s.lcfg.outW ≤ s.i + 1 ∧ s.advancePixel = s.setSeq .rowemit s.j s.i) := by
  unfold State.advancePixel
  split
  · exact .inl ⟨‹_›, rfl⟩
  · exact .inr ⟨by omega, rfl⟩

theorem State.advanceRow_cases (s : State) :
    (s.j + 1 < s.lcfg.outH ∧ s.advanceRow = s.setSeq .pixel (s.j + 1) 0) ∨
    (s.lcfg.outH ≤ s.j + 1 ∧ s.advanceRow = s.setSeq .final s.j s.i) := by
  unfold State.advanceRow
  split
  · exact .inl ⟨‹_›, rfl⟩
  · exact .inr ⟨by omega, rfl⟩

/-- A PIXEL step that goes on: the transform code answered a source offset inside the window, and either the
source window answered ERROR, or the bytes read were converted to `nch` bytes inside OUT, written, and the
sequencer moved on. -/
theorem pixelStep_eq_next {a : Answer} {s t : State} (h : pixelStep a s = .next t) :
    ∃ s1 bs, exec s.xformInstr s = .next s1 ∧ s1.memRead s1.wires.srcOff s1.lcfg.bpp = some bs ∧
      ((a = .error ∧ t = (s1.setWires Wires.idle).enterError .sourceError) ∨
       (a = .ok ∧ ∃ px, convert s1.cfg s1.lcfg.op bs = some px ∧ px.length = s1.lcfg.nch ∧
          s1.outOffset + s1.lcfg.nch ≤ s1.cfg.outWindowBytes ∧
          t = ((s1.setOut (s1.out.writeBytes s1.outOffset px)).setWires Wires.idle).advancePixel)) := by
  obtain ⟨s1, hx, hr⟩ := andThen_eq_next.mp h
  unfold readPixel at hr
  split at hr
  · cases hr
  · next bs hb =>
    refine ⟨s1, bs, hx, hb, ?_⟩
    cases a with
    | error => exact .inl ⟨rfl, by cases hr; rfl⟩
    | ok =>
      refine .inr ⟨rfl, ?_⟩
      simp only [State.cvtInstr, exec_cvtInstr] at hr
      obtain ⟨s2, hc, hw⟩ := andThen_eq_next.mp hr
      obtain ⟨px, hpx, rfl⟩ := runConverter_eq_next.mp hc
      obtain ⟨hl, hle, rfl⟩ := writePixel_eq_next hw
      exact ⟨px, hpx, hl, hle, rfl⟩

end Sys2Proof.Machine
end

