-- ==== Sys2Proof/Laws/PerInstr.lean ====
section
/-! SUPPORT. Statements made for each instruction: that its selector word lies in its row of spec/opcode_table.json
(R69, R70, R71). -/

namespace Sys2Proof.Laws

/-- The word of a selector, numbered as the table numbers it. -/
def selectorWord : Selector → Nat
  | .bus sel _ => sel.toNat
  | .cvt sel => sel.toNat
  | .xform t => t.toNat

/-- The width of a selector's format: BUS 9 bits, XFORM 32, CVT 33. -/
def selectorWidth : Selector → Nat
  | .bus _ _ => 9
  | .xform _ => 32
  | .cvt _ => 33

/-- An instruction's row of the opcode table: the width of its format, its mask and its match. -/
def tableRow : Instr → Nat × Nat × Nat
  | .rdCtrl => (9, 0x1FF, 0x000)
  | .wrCtrl _ => (9, 0x1FF, 0x100)
  | .rdStatus => (9, 0x1FF, 0x004)
  | .wrStatus _ => (9, 0x1FF, 0x104)
  | .rdFormat => (9, 0x1FF, 0x008)
  | .wrFormat _ => (9, 0x1FF, 0x108)
  | .rdTransform => (9, 0x1FF, 0x00C)
  | .wrTransform _ => (9, 0x1FF, 0x10C)
  | .rdCapWidth => (9, 0x1FF, 0x010)
  | .wrCapWidth _ => (9, 0x1FF, 0x110)
  | .rdCapHeight => (9, 0x1FF, 0x014)
  | .wrCapHeight _ => (9, 0x1FF, 0x114)
  | .rdCapPitch => (9, 0x1FF, 0x018)
  | .wrCapPitch _ => (9, 0x1FF, 0x118)
  | .rdOutWidth => (9, 0x1FF, 0x01C)
  | .wrOutWidth _ => (9, 0x1FF, 0x11C)
  | .rdOutHeight => (9, 0x1FF, 0x020)
  | .wrOutHeight _ => (9, 0x1FF, 0x120)
  | .rdSinkParam => (9, 0x1FF, 0x024)
  | .wrSinkParam _ => (9, 0x1FF, 0x124)
  | .rdUnmapped _ => (9, 0x103, 0x000)
  | .wrUnmapped _ _ => (9, 0x103, 0x100)
  | .cvtRgb565 _ => (33, 0x0FFFFFFFF, 0x000000000)
  | .cvtRgba4444Rgba => (33, 0x1FFFFFFFF, 0x100000001)
  | .cvtRgba4444Rgb => (33, 0x1FFFFFFFF, 0x000000001)
  | .cvtRgb888 _ => (33, 0x0FFFFFFFF, 0x000000002)
  | .cvtRgba8888Rgba => (33, 0x1FFFFFFFF, 0x100000003)
  | .cvtRgba8888Rgb => (33, 0x1FFFFFFFF, 0x000000003)
  | .xfQ0 => (32, 0xFFFFFFFF, 0x00000000)
  | .xfQ0H => (32, 0xFFFFFFFF, 0x00010000)
  | .xfQ0V => (32, 0xFFFFFFFF, 0x00020000)
  | .xfQ0Hv => (32, 0xFFFFFFFF, 0x00030000)
  | .xfQ1 => (32, 0xFFFFFFFF, 0x00000001)
  | .xfQ1H => (32, 0xFFFFFFFF, 0x00010001)
  | .xfQ1V => (32, 0xFFFFFFFF, 0x00020001)
  | .xfQ1Hv => (32, 0xFFFFFFFF, 0x00030001)
  | .xfQ2 => (32, 0xFFFFFFFF, 0x00000002)
  | .xfQ2H => (32, 0xFFFFFFFF, 0x00010002)
  | .xfQ2V => (32, 0xFFFFFFFF, 0x00020002)
  | .xfQ2Hv => (32, 0xFFFFFFFF, 0x00030002)
  | .xfQ3 => (32, 0xFFFFFFFF, 0x00000003)
  | .xfQ3H => (32, 0xFFFFFFFF, 0x00010003)
  | .xfQ3V => (32, 0xFFFFFFFF, 0x00020003)
  | .xfQ3Hv => (32, 0xFFFFFFFF, 0x00030003)

/-- The word a well-formed instruction encodes to has the width of its row's format and matches the row: under the
row's mask it is the row's match. -/
def TableRow.Statement (i : Instr) : Prop :=
  WellFormed i →
    selectorWidth (encode i) = (tableRow i).1 ∧
    selectorWord (encode i) &&& (tableRow i).2.1 = (tableRow i).2.2

theorem TableRow.rdCtrl : TableRow.Statement .rdCtrl :=
  fun _ => ⟨rfl, rfl⟩

theorem TableRow.wrCtrl (d : Word) : TableRow.Statement (.wrCtrl d) :=
  fun _ => ⟨rfl, (by decide : (1#1 ++ 0x00#8 : BitVec 9).toNat &&& 0x1FF = 0x100)⟩

theorem TableRow.rdStatus : TableRow.Statement .rdStatus :=
  fun _ => ⟨rfl, rfl⟩

theorem TableRow.wrStatus (d : Word) : TableRow.Statement (.wrStatus d) :=
  fun _ => ⟨rfl, (by decide : (1#1 ++ 0x04#8 : BitVec 9).toNat &&& 0x1FF = 0x104)⟩

theorem TableRow.rdFormat : TableRow.Statement .rdFormat :=
  fun _ => ⟨rfl, rfl⟩

theorem TableRow.wrFormat (d : Word) : TableRow.Statement (.wrFormat d) :=
  fun _ => ⟨rfl, (by decide : (1#1 ++ 0x08#8 : BitVec 9).toNat &&& 0x1FF = 0x108)⟩

theorem TableRow.rdTransform : TableRow.Statement .rdTransform :=
  fun _ => ⟨rfl, rfl⟩

theorem TableRow.wrTransform (d : Word) : TableRow.Statement (.wrTransform d) :=
  fun _ => ⟨rfl, (by decide : (1#1 ++ 0x0C#8 : BitVec 9).toNat &&& 0x1FF = 0x10C)⟩

theorem TableRow.rdCapWidth : TableRow.Statement .rdCapWidth :=
  fun _ => ⟨rfl, rfl⟩

theorem TableRow.wrCapWidth (d : Word) : TableRow.Statement (.wrCapWidth d) :=
  fun _ => ⟨rfl, (by decide : (1#1 ++ 0x10#8 : BitVec 9).toNat &&& 0x1FF = 0x110)⟩

theorem TableRow.rdCapHeight : TableRow.Statement .rdCapHeight :=
  fun _ => ⟨rfl, rfl⟩

theorem TableRow.wrCapHeight (d : Word) : TableRow.Statement (.wrCapHeight d) :=
  fun _ => ⟨rfl, (by decide : (1#1 ++ 0x14#8 : BitVec 9).toNat &&& 0x1FF = 0x114)⟩

theorem TableRow.rdCapPitch : TableRow.Statement .rdCapPitch :=
  fun _ => ⟨rfl, rfl⟩

theorem TableRow.wrCapPitch (d : Word) : TableRow.Statement (.wrCapPitch d) :=
  fun _ => ⟨rfl, (by decide : (1#1 ++ 0x18#8 : BitVec 9).toNat &&& 0x1FF = 0x118)⟩

theorem TableRow.rdOutWidth : TableRow.Statement .rdOutWidth :=
  fun _ => ⟨rfl, rfl⟩

theorem TableRow.wrOutWidth (d : Word) : TableRow.Statement (.wrOutWidth d) :=
  fun _ => ⟨rfl, (by decide : (1#1 ++ 0x1C#8 : BitVec 9).toNat &&& 0x1FF = 0x11C)⟩

theorem TableRow.rdOutHeight : TableRow.Statement .rdOutHeight :=
  fun _ => ⟨rfl, rfl⟩

theorem TableRow.wrOutHeight (d : Word) : TableRow.Statement (.wrOutHeight d) :=
  fun _ => ⟨rfl, (by decide : (1#1 ++ 0x20#8 : BitVec 9).toNat &&& 0x1FF = 0x120)⟩

theorem TableRow.rdSinkParam : TableRow.Statement .rdSinkParam :=
  fun _ => ⟨rfl, rfl⟩

theorem TableRow.wrSinkParam (d : Word) : TableRow.Statement (.wrSinkParam d) :=
  fun _ => ⟨rfl, (by decide : (1#1 ++ 0x24#8 : BitVec 9).toNat &&& 0x1FF = 0x124)⟩

theorem TableRow.rdUnmapped (off : BitVec 8) : TableRow.Statement (.rdUnmapped off) := by
  have h : ∀ o : BitVec 8, AlignedOffset o →
      (0#1 ++ o : BitVec 9).toNat &&& 0x103 = 0x000 := by decide
  intro hw
  have ha : AlignedOffset off ∧ UnmappedOffset off := by simpa [WellFormed, Instr.wf] using hw
  exact ⟨rfl, h off ha.1⟩

theorem TableRow.wrUnmapped (off : BitVec 8) (d : Word) : TableRow.Statement (.wrUnmapped off d) := by
  have h : ∀ o : BitVec 8, AlignedOffset o →
      (1#1 ++ o : BitVec 9).toNat &&& 0x103 = 0x100 := by decide
  intro hw
  have ha : AlignedOffset off ∧ UnmappedOffset off := by simpa [WellFormed, Instr.wf] using hw
  exact ⟨rfl, h off ha.1⟩

theorem TableRow.cvtRgb565 (alphaReq : Bool) : TableRow.Statement (.cvtRgb565 alphaReq) := by
  cases alphaReq <;> exact fun _ => ⟨rfl, rfl⟩

theorem TableRow.cvtRgba4444Rgba : TableRow.Statement .cvtRgba4444Rgba :=
  fun _ => ⟨rfl, rfl⟩

theorem TableRow.cvtRgba4444Rgb : TableRow.Statement .cvtRgba4444Rgb :=
  fun _ => ⟨rfl, rfl⟩

theorem TableRow.cvtRgb888 (alphaReq : Bool) : TableRow.Statement (.cvtRgb888 alphaReq) := by
  cases alphaReq <;> exact fun _ => ⟨rfl, rfl⟩

theorem TableRow.cvtRgba8888Rgba : TableRow.Statement .cvtRgba8888Rgba :=
  fun _ => ⟨rfl, rfl⟩

theorem TableRow.cvtRgba8888Rgb : TableRow.Statement .cvtRgba8888Rgb :=
  fun _ => ⟨rfl, rfl⟩

theorem TableRow.xfQ0 : TableRow.Statement .xfQ0 :=
  fun _ => ⟨rfl, rfl⟩

theorem TableRow.xfQ0H : TableRow.Statement .xfQ0H :=
  fun _ => ⟨rfl, rfl⟩

theorem TableRow.xfQ0V : TableRow.Statement .xfQ0V :=
  fun _ => ⟨rfl, rfl⟩

theorem TableRow.xfQ0Hv : TableRow.Statement .xfQ0Hv :=
  fun _ => ⟨rfl, rfl⟩

theorem TableRow.xfQ1 : TableRow.Statement .xfQ1 :=
  fun _ => ⟨rfl, rfl⟩

theorem TableRow.xfQ1H : TableRow.Statement .xfQ1H :=
  fun _ => ⟨rfl, rfl⟩

theorem TableRow.xfQ1V : TableRow.Statement .xfQ1V :=
  fun _ => ⟨rfl, rfl⟩

theorem TableRow.xfQ1Hv : TableRow.Statement .xfQ1Hv :=
  fun _ => ⟨rfl, rfl⟩

theorem TableRow.xfQ2 : TableRow.Statement .xfQ2 :=
  fun _ => ⟨rfl, rfl⟩

theorem TableRow.xfQ2H : TableRow.Statement .xfQ2H :=
  fun _ => ⟨rfl, rfl⟩

theorem TableRow.xfQ2V : TableRow.Statement .xfQ2V :=
  fun _ => ⟨rfl, rfl⟩

theorem TableRow.xfQ2Hv : TableRow.Statement .xfQ2Hv :=
  fun _ => ⟨rfl, rfl⟩

theorem TableRow.xfQ3 : TableRow.Statement .xfQ3 :=
  fun _ => ⟨rfl, rfl⟩

theorem TableRow.xfQ3H : TableRow.Statement .xfQ3H :=
  fun _ => ⟨rfl, rfl⟩

theorem TableRow.xfQ3V : TableRow.Statement .xfQ3V :=
  fun _ => ⟨rfl, rfl⟩

theorem TableRow.xfQ3Hv : TableRow.Statement .xfQ3Hv :=
  fun _ => ⟨rfl, rfl⟩

end Sys2Proof.Laws
end

