-- ==== Sys2Proof/Tests/Slice0.lean ====
section
/-! SUPPORT. Small tests: the well-formedness checks, every instruction's word written out from the spec's tables,
the numbers of spec/95_test_vectors.md (V<n>) and of the rules' own examples, and for each statement with
hypotheses a concrete state and operands that meet them. -/

namespace Sys2Proof.Tests
open Sys2Proof.Machine Sys2Proof.Claims

/-! ### Helpers -/

/-- The parameters of the test vectors (95_test_vectors.md): the defaults, both windows of 256 bytes. -/
def params : Params where
  srcWindowBytes := 256
  outWindowBytes := 256
  pix16ByteOrder := .le
  rgba4444Layout := ⟨3, 2, 1, 0⟩
  reservedPolicy := .reject
  rotSense := .undoCw
  pitchAlignCheck := .noCheck

/-- Reset under those parameters. -/
def base : State := { State.reset with cfg := params }

/-- Registers with this FORMAT, TRANSFORM, capture and output; RGB wanted. -/
def regsOf (f t : Word) (capW capH pitch outW outH : Word) : Regs :=
  { Regs.reset with
    format := f, transform := t, capWidth := capW, capHeight := capH, capPitch := pitch
    outWidth := outW, outHeight := outH }

def idleWith (r : Regs) : State := { base with regs := r }

/-- STATUS after the outcome, if it is a next state. -/
def statusOf (o : Host.Outcome State Fault Refusal) : Option Word :=
  match o with
  | .next s => some s.status.word
  | _ => none

/-- The word the host read. -/
def wordOf (o : Host.Outcome State Fault Refusal) : Option Word :=
  match o with
  | .next s => match s.reply with
    | .word v => some v
    | _ => none
  | _ => none

/-- The source offset the mapper gave. -/
def offsetOf (o : Host.Outcome State Fault Refusal) : Option Nat :=
  match o with
  | .next s => some s.wires.srcOff
  | _ => none

/-- The converter's result, as numbers. -/
def pixelOf (o : Host.Outcome State Fault Refusal) : Option (List Nat) :=
  match o with
  | .next s => some (s.wires.pixel.map BitVec.toNat)
  | _ => none

/-- The next state; the state itself where there is none. -/
def after (s : State) : State :=
  match step s with
  | .next t => t
  | _ => s

/-- The bytes of a list of numbers. -/
def bytes (l : List Nat) : List Byte := l.map (BitVec.ofNat 8)

/-- The example frame of 41_orientation_mapper.md: output 3×2, RGB565, pitch 32. -/
def frame (odd : Bool) (i j : Nat) : State :=
  { base with
    lcfg := latchConfig .rgb565
      (if odd then regsOf 0 0 2 3 32 3 2 else regsOf 0 0 3 2 32 3 2)
    i := i, j := j }

/-- A state whose converter operand is these bytes. -/
def operand (l : List Nat) : State := { base with wires := { Wires.idle with bytes := bytes l } }

/-- Scenario A's source pixels at pitch 4, and its latched configuration. -/
def sceneSrc : Memory := [(0, 0x00#8), (1, 0x00#8), (2, 0xFF#8), (3, 0xFF#8), (4, 0x00#8), (5, 0xF8#8), (6, 0xE0#8), (7, 0x07#8)]

def sceneRegs : Regs := regsOf 0 0 2 2 4 2 2

/-- A run of scenario A in this phase, at this pixel, with these bytes in OUT and these turns to come. -/
def running (ph : Phase) (j i : Nat) (out : Memory) (turns : List Turn) : State :=
  { base with
    regs := sceneRegs
    status := ⟨true, false, false, false, .noError⟩
    lcfg := latchConfig .rgb565 sceneRegs
    phase := ph, j := j, i := i, src := sceneSrc, out := out, turns := turns }

/-- OUT after rows 0 and 1 of scenario A. -/
def rowZero : Memory := [(0, 0#8), (1, 0#8), (2, 0#8), (3, 255#8), (4, 255#8), (5, 255#8)]

def rowOne : Memory := [(6, 255#8), (7, 0#8), (8, 0#8), (9, 0#8), (10, 255#8), (11, 0#8)]

/-! ### Well-formedness -/

theorem test_wf_refuses_a_misaligned_unmapped_read : Instr.wf (.rdUnmapped 0x2A#8) = false := by decide

theorem test_wf_refuses_an_unmapped_read_of_a_mapped_register : Instr.wf (.rdUnmapped 0x24#8) = false := by decide

theorem test_wf_refuses_a_misaligned_unmapped_write : Instr.wf (.wrUnmapped 0xFF#8 0#32) = false := by decide

theorem test_wf_refuses_an_unmapped_write_of_a_mapped_register : Instr.wf (.wrUnmapped 0x00#8 1#32) = false := by
  decide

theorem test_wf_takes_the_ends_of_the_unmapped_range :
    Instr.wf (.rdUnmapped 0x28#8) = true ∧ Instr.wf (.wrUnmapped 0xFC#8 0#32) = true := by decide

theorem test_params_refuse_a_layout_with_two_channels_on_one_nibble :
    ¬ Params.Ok { params with rgba4444Layout := ⟨3, 3, 1, 0⟩ } := by decide

theorem test_params_refuse_an_empty_source_window : ¬ Params.Ok { params with srcWindowBytes := 0 } := by decide

theorem test_params_refuse_an_empty_output_window : ¬ Params.Ok { params with outWindowBytes := 0 } := by decide

theorem test_params_take_the_defaults : Params.Ok params := by decide

/-! ### Words written out from R16, R69 (bit 8 is W, bits 7:0 the offset) -/

theorem test_decode_Ctrl :
    decodeBus 0b000000000#9 0#32 = .ok .rdCtrl ∧ decodeBus 0b100000000#9 0xDEADBEEF#32 = .ok (.wrCtrl 0xDEADBEEF#32) := ⟨rfl, rfl⟩

theorem test_decode_Status :
    decodeBus 0b000000100#9 0#32 = .ok .rdStatus ∧ decodeBus 0b100000100#9 0xDEADBEEF#32 = .ok (.wrStatus 0xDEADBEEF#32) := ⟨rfl, rfl⟩

theorem test_decode_Format :
    decodeBus 0b000001000#9 0#32 = .ok .rdFormat ∧ decodeBus 0b100001000#9 0xDEADBEEF#32 = .ok (.wrFormat 0xDEADBEEF#32) := ⟨rfl, rfl⟩

theorem test_decode_Transform :
    decodeBus 0b000001100#9 0#32 = .ok .rdTransform ∧ decodeBus 0b100001100#9 0xDEADBEEF#32 = .ok (.wrTransform 0xDEADBEEF#32) := ⟨rfl, rfl⟩

theorem test_decode_CapWidth :
    decodeBus 0b000010000#9 0#32 = .ok .rdCapWidth ∧ decodeBus 0b100010000#9 0xDEADBEEF#32 = .ok (.wrCapWidth 0xDEADBEEF#32) := ⟨rfl, rfl⟩

theorem test_decode_CapHeight :
    decodeBus 0b000010100#9 0#32 = .ok .rdCapHeight ∧ decodeBus 0b100010100#9 0xDEADBEEF#32 = .ok (.wrCapHeight 0xDEADBEEF#32) := ⟨rfl, rfl⟩

theorem test_decode_CapPitch :
    decodeBus 0b000011000#9 0#32 = .ok .rdCapPitch ∧ decodeBus 0b100011000#9 0xDEADBEEF#32 = .ok (.wrCapPitch 0xDEADBEEF#32) := ⟨rfl, rfl⟩

theorem test_decode_OutWidth :
    decodeBus 0b000011100#9 0#32 = .ok .rdOutWidth ∧ decodeBus 0b100011100#9 0xDEADBEEF#32 = .ok (.wrOutWidth 0xDEADBEEF#32) := ⟨rfl, rfl⟩

theorem test_decode_OutHeight :
    decodeBus 0b000100000#9 0#32 = .ok .rdOutHeight ∧ decodeBus 0b100100000#9 0xDEADBEEF#32 = .ok (.wrOutHeight 0xDEADBEEF#32) := ⟨rfl, rfl⟩

theorem test_decode_SinkParam :
    decodeBus 0b000100100#9 0#32 = .ok .rdSinkParam ∧ decodeBus 0b100100100#9 0xDEADBEEF#32 = .ok (.wrSinkParam 0xDEADBEEF#32) := ⟨rfl, rfl⟩

theorem test_decode_unmapped :
    decodeBus 0b000101000#9 0#32 = .ok (.rdUnmapped 0x28#8) ∧
    decodeBus 0b111111100#9 7#32 = .ok (.wrUnmapped 0xFC#8 7#32) := ⟨rfl, rfl⟩

theorem test_decode_refuses_a_misaligned_offset :
    decodeBus 0b100000101#9 1#32 = .error (.misalignedOffset 0b100000101#9) := by decide

/-! ### Words written out from R70 (bit 32 is ALPHA_REQ, bits 31:0 FORMAT) -/

theorem test_decode_cvtRgb565_true : decodeCvt 0b100000000000000000000000000000000#33 = .ok (.cvtRgb565 true) := rfl

theorem test_decode_cvtRgb565_false : decodeCvt 0b000000000000000000000000000000000#33 = .ok (.cvtRgb565 false) := rfl

theorem test_decode_cvtRgba4444Rgba : decodeCvt 0b100000000000000000000000000000001#33 = .ok (.cvtRgba4444Rgba) := rfl

theorem test_decode_cvtRgba4444Rgb : decodeCvt 0b000000000000000000000000000000001#33 = .ok (.cvtRgba4444Rgb) := rfl

theorem test_decode_cvtRgb888_true : decodeCvt 0b100000000000000000000000000000010#33 = .ok (.cvtRgb888 true) := rfl

theorem test_decode_cvtRgb888_false : decodeCvt 0b000000000000000000000000000000010#33 = .ok (.cvtRgb888 false) := rfl

theorem test_decode_cvtRgba8888Rgba : decodeCvt 0b100000000000000000000000000000011#33 = .ok (.cvtRgba8888Rgba) := rfl

theorem test_decode_cvtRgba8888Rgb : decodeCvt 0b000000000000000000000000000000011#33 = .ok (.cvtRgba8888Rgb) := rfl

theorem test_decode_refuses_format_four : decodeCvt 0b000000000000000000000000000000100#33 = .error (.unknownFormat 4#33) := rfl

/-- V71: all 32 bits take part in the match. -/
theorem test_decode_refuses_format_0x100 : decodeCvt 0b100000000000000000000000100000000#33 = .error (.unknownFormat 0x100000100#33) := rfl

/-! ### Words written out from R58, R71 (bits 1:0 are Q, bit 16 H, bit 17 V) -/

theorem test_decode_xfQ0 : decodeXform .reject 0b00000000000000000000000000000000#32 = .ok .xfQ0 := rfl

theorem test_decode_xfQ0H : decodeXform .reject 0b00000000000000010000000000000000#32 = .ok .xfQ0H := rfl

theorem test_decode_xfQ0V : decodeXform .reject 0b00000000000000100000000000000000#32 = .ok .xfQ0V := rfl

theorem test_decode_xfQ0Hv : decodeXform .reject 0b00000000000000110000000000000000#32 = .ok .xfQ0Hv := rfl

theorem test_decode_xfQ1 : decodeXform .reject 0b00000000000000000000000000000001#32 = .ok .xfQ1 := rfl

theorem test_decode_xfQ1H : decodeXform .reject 0b00000000000000010000000000000001#32 = .ok .xfQ1H := rfl

theorem test_decode_xfQ1V : decodeXform .reject 0b00000000000000100000000000000001#32 = .ok .xfQ1V := rfl

theorem test_decode_xfQ1Hv : decodeXform .reject 0b00000000000000110000000000000001#32 = .ok .xfQ1Hv := rfl

theorem test_decode_xfQ2 : decodeXform .reject 0b00000000000000000000000000000010#32 = .ok .xfQ2 := rfl

theorem test_decode_xfQ2H : decodeXform .reject 0b00000000000000010000000000000010#32 = .ok .xfQ2H := rfl

theorem test_decode_xfQ2V : decodeXform .reject 0b00000000000000100000000000000010#32 = .ok .xfQ2V := rfl

theorem test_decode_xfQ2Hv : decodeXform .reject 0b00000000000000110000000000000010#32 = .ok .xfQ2Hv := rfl

theorem test_decode_xfQ3 : decodeXform .reject 0b00000000000000000000000000000011#32 = .ok .xfQ3 := rfl

theorem test_decode_xfQ3H : decodeXform .reject 0b00000000000000010000000000000011#32 = .ok .xfQ3H := rfl

theorem test_decode_xfQ3V : decodeXform .reject 0b00000000000000100000000000000011#32 = .ok .xfQ3V := rfl

theorem test_decode_xfQ3Hv : decodeXform .reject 0b00000000000000110000000000000011#32 = .ok .xfQ3Hv := rfl

/-- V72, V73: bits 2 and 18 are reserved. -/
theorem test_decode_refuses_reserved_transform_bits :
    decodeXform .reject 0x00000004#32 = .error (.reservedTransformBits 0x00000004#32) ∧
    decodeXform .reject 0x00040000#32 = .error (.reservedTransformBits 0x00040000#32) := ⟨rfl, rfl⟩

/-- V94: under IGNORE 0xFFFF0001 selects XF_Q1_HV. -/
theorem test_decode_ignores_reserved_transform_bits : decodeXform .ignore 0xFFFF0001#32 = .ok .xfQ1Hv := rfl

/-! ### Instructions placed for the next step -/

theorem test_placed_read_runs : wordOf (step (State.reset.withFetchWord 16 0x004)) = some 0#32 := rfl

theorem test_placed_transform_runs : offsetOf (exec .xfQ3Hv (State.reset.withFetchWord 32 0x00030003)) = some 0 := rfl

/-- The one-pixel run converts and comes to ROWEMIT. -/
theorem test_placed_conversion_runs : (after (State.reset.withFetchWord 40 0x100000003)).phase = .rowemit := rfl

theorem test_table_words_decode :
    decodeTableWord 16 0x124 = some (.wrSinkParam 0#32) ∧ decodeTableWord 32 0x00010001 = some .xfQ1H ∧
    decodeTableWord 40 0x100000001 = some .cvtRgba4444Rgba ∧ decodeTableWord 16 0x003 = none := ⟨rfl, rfl, rfl, rfl⟩

/-! ### The register port -/

/-- V103: only ALPHA_REQ is stored and no run begins. -/
theorem test_wrCtrl_stores_alphaReq_alone :
    exec (.wrCtrl 0xFFFFFFFE#32) base = .next { base with regs := { Regs.reset with alphaReq := true } } := rfl

theorem test_rdCtrl_shows_alphaReq : wordOf (exec .rdCtrl { base with regs := { Regs.reset with alphaReq := true } }) = some 2#32 := rfl

/-- V104. -/
theorem test_wrStatus_is_ignored : exec (.wrStatus 0xFFFFFFFF#32) base = .next base := rfl

/-- R61's example: done, RGBA. -/
theorem test_rdStatus_done_rgba :
    wordOf (exec .rdStatus { base with status := ⟨false, true, false, true, .noError⟩ }) = some 0x0000000A#32 := rfl

/-- V105: FORMAT stores all 32 bits. -/
theorem test_wrFormat_stores_all_bits : (after { base with turns := [.bus 0x108#9 0xDEADBEEF#32] }).regs.format = 0xDEADBEEF#32 := rfl

/-- V106. -/
theorem test_unmapped_reads_zero : wordOf (step { base with turns := [.bus 0x0FC#9 0#32] }) = some 0#32 := rfl

theorem test_Format_write_then_read :
    wordOf (exec .rdFormat (after { base with turns := [.bus 0x108#9 0x80000001#32] })) = some 0x80000001#32 := rfl

theorem test_Transform_write_then_read :
    wordOf (exec .rdTransform (after { base with turns := [.bus 0x10C#9 0x80000001#32] })) = some 0x80000001#32 := rfl

theorem test_CapWidth_write_then_read :
    wordOf (exec .rdCapWidth (after { base with turns := [.bus 0x110#9 0x80000001#32] })) = some 0x80000001#32 := rfl

theorem test_CapHeight_write_then_read :
    wordOf (exec .rdCapHeight (after { base with turns := [.bus 0x114#9 0x80000001#32] })) = some 0x80000001#32 := rfl

theorem test_CapPitch_write_then_read :
    wordOf (exec .rdCapPitch (after { base with turns := [.bus 0x118#9 0x80000001#32] })) = some 0x80000001#32 := rfl

theorem test_OutWidth_write_then_read :
    wordOf (exec .rdOutWidth (after { base with turns := [.bus 0x11C#9 0x80000001#32] })) = some 0x80000001#32 := rfl

theorem test_OutHeight_write_then_read :
    wordOf (exec .rdOutHeight (after { base with turns := [.bus 0x120#9 0x80000001#32] })) = some 0x80000001#32 := rfl

theorem test_SinkParam_write_then_read :
    wordOf (exec .rdSinkParam (after { base with turns := [.bus 0x124#9 0x80000001#32] })) = some 0x80000001#32 := rfl

/-! ### START (V68 to V87, V94) -/

theorem test_V69 : statusOf (exec (.wrCtrl 1#32) (idleWith (regsOf 7 0 0 0 0 0 0))) = some 0x104#32 := rfl

theorem test_V74 : statusOf (exec (.wrCtrl 1#32) (idleWith (regsOf 0 0x80000000 0 0 0 0 0))) = some 0x204#32 := rfl

theorem test_V75 : statusOf (exec (.wrCtrl 1#32) (idleWith (regsOf 0 1 4 2 32 4 2))) = some 0x304#32 := rfl

theorem test_V76 : statusOf (exec (.wrCtrl 1#32) (idleWith (regsOf 0 1 4 2 32 2 4))) = some 0x001#32 := rfl

theorem test_V79 : statusOf (exec (.wrCtrl 1#32) (idleWith (regsOf 2 0 5 1 14 5 1))) = some 0x404#32 := rfl

theorem test_V80 : statusOf (exec (.wrCtrl 1#32) (idleWith (regsOf 2 0 5 1 15 5 1))) = some 0x001#32 := rfl

theorem test_V83 : statusOf (exec (.wrCtrl 1#32) (idleWith (regsOf 0 0 2 9 32 2 9))) = some 0x504#32 := rfl

theorem test_V84 : statusOf (exec (.wrCtrl 1#32) (idleWith (regsOf 0 0 2 8 32 2 8))) = some 0x001#32 := rfl

theorem test_V85 : statusOf (exec (.wrCtrl 3#32) (idleWith (regsOf 3 0 8 8 32 8 8))) = some 0x009#32 := rfl

theorem test_V86 : statusOf (exec (.wrCtrl 3#32) { idleWith (regsOf 3 0 8 8 32 8 8) with cfg := { params with outWindowBytes := 255 } }) = some 0x504#32 := rfl

theorem test_V91_bpp16 : statusOf (exec (.wrCtrl 1#32) { idleWith (regsOf 2 0 2 2 32 2 2) with cfg := { params with srcWindowBytes := 1024, pitchAlignCheck := .bpp16 } }) = some 0x404#32 := rfl

theorem test_V94 : statusOf (exec (.wrCtrl 1#32) { idleWith (regsOf 0 0xFFFF0001 2 2 32 2 2) with cfg := { params with reservedPolicy := .ignore } }) = some 0x001#32 := rfl

/-- V107: a START while BUSY stores ALPHA_REQ and nothing else. -/
theorem test_V107 :
    exec (.wrCtrl 3#32) (running .pixel 0 0 [] []) =
      .next { running .pixel 0 0 [] [] with regs := { sceneRegs with alphaReq := true } } := rfl

/-! ### Transform codes: the offsets at (0, 0) and (2, 1) of R102 to R117's examples -/

theorem test_xfQ0 :
    offsetOf (exec .xfQ0 (frame false 0 0)) = some 0 ∧ offsetOf (exec .xfQ0 (frame false 2 1)) = some 36 := ⟨rfl, rfl⟩

theorem test_xfQ0H :
    offsetOf (exec .xfQ0H (frame false 0 0)) = some 4 ∧ offsetOf (exec .xfQ0H (frame false 2 1)) = some 32 := ⟨rfl, rfl⟩

theorem test_xfQ0V :
    offsetOf (exec .xfQ0V (frame false 0 0)) = some 32 ∧ offsetOf (exec .xfQ0V (frame false 2 1)) = some 4 := ⟨rfl, rfl⟩

theorem test_xfQ0Hv :
    offsetOf (exec .xfQ0Hv (frame false 0 0)) = some 36 ∧ offsetOf (exec .xfQ0Hv (frame false 2 1)) = some 0 := ⟨rfl, rfl⟩

theorem test_xfQ1 :
    offsetOf (exec .xfQ1 (frame true 0 0)) = some 2 ∧ offsetOf (exec .xfQ1 (frame true 2 1)) = some 64 := ⟨rfl, rfl⟩

theorem test_xfQ1H :
    offsetOf (exec .xfQ1H (frame true 0 0)) = some 66 ∧ offsetOf (exec .xfQ1H (frame true 2 1)) = some 0 := ⟨rfl, rfl⟩

theorem test_xfQ1V :
    offsetOf (exec .xfQ1V (frame true 0 0)) = some 0 ∧ offsetOf (exec .xfQ1V (frame true 2 1)) = some 66 := ⟨rfl, rfl⟩

theorem test_xfQ1Hv :
    offsetOf (exec .xfQ1Hv (frame true 0 0)) = some 64 ∧ offsetOf (exec .xfQ1Hv (frame true 2 1)) = some 2 := ⟨rfl, rfl⟩

theorem test_xfQ2 :
    offsetOf (exec .xfQ2 (frame false 0 0)) = some 36 ∧ offsetOf (exec .xfQ2 (frame false 2 1)) = some 0 := ⟨rfl, rfl⟩

theorem test_xfQ2H :
    offsetOf (exec .xfQ2H (frame false 0 0)) = some 32 ∧ offsetOf (exec .xfQ2H (frame false 2 1)) = some 4 := ⟨rfl, rfl⟩

theorem test_xfQ2V :
    offsetOf (exec .xfQ2V (frame false 0 0)) = some 4 ∧ offsetOf (exec .xfQ2V (frame false 2 1)) = some 32 := ⟨rfl, rfl⟩

theorem test_xfQ2Hv :
    offsetOf (exec .xfQ2Hv (frame false 0 0)) = some 0 ∧ offsetOf (exec .xfQ2Hv (frame false 2 1)) = some 36 := ⟨rfl, rfl⟩

theorem test_xfQ3 :
    offsetOf (exec .xfQ3 (frame true 0 0)) = some 64 ∧ offsetOf (exec .xfQ3 (frame true 2 1)) = some 2 := ⟨rfl, rfl⟩

theorem test_xfQ3H :
    offsetOf (exec .xfQ3H (frame true 0 0)) = some 0 ∧ offsetOf (exec .xfQ3H (frame true 2 1)) = some 66 := ⟨rfl, rfl⟩

theorem test_xfQ3V :
    offsetOf (exec .xfQ3V (frame true 0 0)) = some 66 ∧ offsetOf (exec .xfQ3V (frame true 2 1)) = some 0 := ⟨rfl, rfl⟩

theorem test_xfQ3Hv :
    offsetOf (exec .xfQ3Hv (frame true 0 0)) = some 2 ∧ offsetOf (exec .xfQ3Hv (frame true 2 1)) = some 64 := ⟨rfl, rfl⟩

/-- APPLY_CW: XF_Q1 gives `eca/fdb`, so pixel (0, 0) is `e` at offset 64 (R100). -/
theorem test_xfQ1_applyCw :
    offsetOf (exec .xfQ1 { frame true 0 0 with cfg := { params with rotSense := .applyCw } }) = some 64 := rfl

/-! ### Conversions -/

theorem test_V14 : pixelOf (exec (.cvtRgb565 false) (operand [0x34, 0x12])) = some [16, 69, 165] := rfl

theorem test_V17 : pixelOf (exec (.cvtRgb565 true) { operand [0xF8, 0x00] with cfg := { params with pix16ByteOrder := .be } }) = some [255, 0, 0] := rfl

theorem test_V20 : pixelOf (exec (.cvtRgba4444Rgba) (operand [0x34, 0x12])) = some [17, 34, 51, 68] := rfl

theorem test_V28 : pixelOf (exec (.cvtRgba4444Rgba) { operand [0x12, 0x34] with cfg := { params with pix16ByteOrder := .be } }) = some [17, 34, 51, 68] := rfl

theorem test_V29 : pixelOf (exec (.cvtRgba4444Rgb) (operand [0x34, 0x12])) = some [17, 34, 51] := rfl

theorem test_V37 : pixelOf (exec (.cvtRgb888 true) (operand [0x80, 0x7F, 0x01])) = some [128, 127, 1] := rfl

theorem test_V41 : pixelOf (exec (.cvtRgba8888Rgba) (operand [0xFF, 0x00, 0x80, 0x00])) = some [255, 0, 128, 0] := rfl

theorem test_V43 : pixelOf (exec (.cvtRgba8888Rgb) (operand [0xFF, 0x00, 0x80, 0x00])) = some [255, 0, 128] := rfl

/-! ### Sequencer steps of scenario A -/

/-- R130's example: (0, 1) gives (255, 0, 0) at OUT offsets 6, 7 and 8. -/
theorem test_pixel_step : (after (running .pixel 1 0 rowZero [.seq (some .ok)])).out = rowZero ++ [(6, 255#8), (7, 0#8), (8, 0#8)] := rfl

/-- R131's example: the second event is ROW 0. -/
theorem test_row_step :
    (after (running .rowemit 0 1 rowZero [.seq (some .ok)])).log = [(.row 0 (bytes [0, 0, 0, 255, 255, 255]), .ok)] := rfl

/-- V98: FINAL rejected. -/
theorem test_V98 : statusOf (step (running .final 1 1 (rowZero ++ rowOne) [.seq (some .error)])) = some 0x704#32 := rfl

/-- V102: a read error. -/
theorem test_V102 : statusOf (step (running .pixel 1 1 rowZero [.seq (some .error)])) = some 0x604#32 := rfl

/-- V111: reset during a run. -/
theorem test_V111 : statusOf (step (running .pixel 0 0 [] [.reset])) = some 0#32 := rfl

/-- Reset's windows are in canonical form. -/
theorem test_reset_windows_are_canonical : Memory.wf State.reset.src ∧ Memory.wf State.reset.out := by decide

/-! ### Witnesses: each statement's hypotheses hold somewhere -/

theorem witness_DecodeOfEncodeIsTheInstruction :
    WellFormed (.rdUnmapped 0x28#8) ∧ WellFormed (.rdUnmapped 0xFC#8) ∧ WellFormed (.wrUnmapped 0x28#8 1#32) ∧
    WellFormed (.wrUnmapped 0xFC#8 1#32) ∧ WellFormed .xfQ0 := by decide

theorem witness_EncodeOfDecodeIsTheWord :
    decodeBus 0x004#9 7#32 = .ok .rdStatus ∧ decodeBus 0x1FC#9 7#32 = .ok (.wrUnmapped 0xFC#8 7#32) ∧
    decodeCvt 0x100000003#33 = .ok .cvtRgba8888Rgba ∧ decodeXform .reject 0x00030003#32 = .ok .xfQ3Hv ∧
    decodeXform .ignore 0xFFFFFFFF#32 = .ok .xfQ3Hv := ⟨rfl, rfl, rfl, rfl, rfl⟩

theorem witness_StepRunsTheDecodedAccess :
    ({ base with turns := [.bus 0x004#9 0#32] } : State).turns = .bus 0x004#9 0#32 :: [] ∧
    decodeBus 0x004#9 0#32 = .ok .rdStatus := ⟨rfl, rfl⟩

/-- Scenario A's pixel (0, 1) with its turn taken, after XF_Q0, and after CVT_RGB565. -/
def atPixel : State := running .pixel 1 0 rowZero []

def mappedPixel : State := { atPixel with wires := { Wires.idle with srcCol := 0, srcRow := 1, srcOff := 4 } }

def convertedPixel : State :=
  { mappedPixel with wires := { mappedPixel.wires with bytes := bytes [0x00, 0xF8], pixel := bytes [255, 0, 0] } }

theorem witness_PixelStepRunsTheLatchedInstructions :
    (running .pixel 1 0 rowZero [.seq (some .ok)]).turns = .seq (some .ok) :: [] ∧
    (running .pixel 1 0 rowZero [.seq (some .ok)]).phase = .pixel ∧
    exec (running .pixel 1 0 rowZero [.seq (some .ok)]).xformInstr atPixel = .next mappedPixel ∧
    mappedPixel.memRead mappedPixel.wires.srcOff 2 = some (bytes [0x00, 0xF8]) ∧
    exec (running .pixel 1 0 rowZero [.seq (some .ok)]).cvtInstr
      { mappedPixel with wires := { mappedPixel.wires with bytes := bytes [0x00, 0xF8] } } = .next convertedPixel :=
  ⟨rfl, rfl, rfl, rfl, rfl⟩

/-- Scenario A's registers, idle. -/
def ready : State := idleWith sceneRegs

/-- The state a START of scenario A leaves. -/
def started : State :=
  { ready with
    status := ⟨true, false, false, false, .noError⟩
    lcfg := latchConfig .rgb565 sceneRegs
    phase := .header }

theorem witness_StartLatchesTheDecodedSelectors :
    ready.status.busy = false ∧ (1#32).getLsbD 0 = true ∧ exec (.wrCtrl 1#32) ready = .next started ∧
    started.status.busy = true := ⟨rfl, rfl, rfl, rfl⟩

theorem witness_MisalignedAccessHasNoMove :
    ({ base with turns := [.bus 0x101#9 1#32] } : State).turns = .bus 0x101#9 1#32 :: [] ∧
    (0x101#9).toNat % 4 ≠ 0 := by decide

theorem witness_UnmappedOffsetsReadZeroAndIgnoreWrites :
    (0x28 ≤ (0x28#8).toNat ∧ (0x28#8).toNat % 4 = 0) ∧ (0x28 ≤ (0xFC#8).toNat ∧ (0xFC#8).toNat % 4 = 0) ∧
    ({ base with turns := [.bus (0#1 ++ 0x28#8) 5#32] } : State).turns = .bus (0#1 ++ 0x28#8) 5#32 :: [] ∧
    ({ base with turns := [.bus (1#1 ++ 0xFC#8) 7#32] } : State).turns = .bus (1#1 ++ 0xFC#8) 7#32 :: [] := by decide

theorem witness_CtrlWriteWithoutStartStoresAlphaReq : (0xFFFFFFFE#32).getLsbD 0 = false := by decide

theorem witness_StartWhileBusyIsIgnored :
    (3#32).getLsbD 0 = true ∧ (running .pixel 0 0 [] []).status.busy = true := by decide

/-- V70: FORMAT 4 is the least illegal value. -/
theorem witness_StartRefusesUnknownFormats :
    (1#32).getLsbD 0 = true ∧ (idleWith (regsOf 4 0 2 2 32 2 2)).status.busy = false ∧
    (idleWith (regsOf 4 0 2 2 32 2 2)).regs.format.toNat > 3 := by decide

/-- V72 under REJECT with the greatest legal FORMAT, and V94 under IGNORE. -/
theorem witness_StartRefusesReservedTransformBits :
    (1#32).getLsbD 0 = true ∧ (idleWith (regsOf 3 4 2 2 32 2 2)).status.busy = false ∧
    (idleWith (regsOf 3 4 2 2 32 2 2)).regs.format.toNat ≤ 3 ∧ TransformRejected (idleWith (regsOf 3 4 2 2 32 2 2)) ∧
    ({ ready with cfg := { params with reservedPolicy := .ignore } } : State).cfg.reservedPolicy = .ignore ∧
    statusOf (exec (.wrCtrl 1#32) { ready with cfg := { params with reservedPolicy := .ignore } }) = some 1#32 := by
  unfold TransformRejected; decide

/-- V78 (a zero dimension), V77 (even quadrant), V75 (odd quadrant). -/
theorem witness_StartRefusesBadDimensions :
    (1#32).getLsbD 0 = true ∧
    (∀ s ∈ [idleWith (regsOf 0 0 2 2 32 0 2), idleWith (regsOf 0 0 2 2 32 2 3), idleWith (regsOf 0 1 4 2 32 4 2)],
      s.status.busy = false ∧ s.regs.format.toNat ≤ 3 ∧ ¬ TransformRejected s ∧ DimensionsBad s) := by
  unfold TransformRejected DimensionsBad; decide

/-- V79 (one byte short), V90 under BYTES16, V91 under BPP16. -/
theorem witness_StartRefusesBadPitch :
    (1#32).getLsbD 0 = true ∧
    (∀ s ∈ [idleWith (regsOf 2 0 5 1 14 5 1),
        { idleWith (regsOf 2 0 2 2 24 2 2) with cfg := { params with pitchAlignCheck := .bytes16 } },
        { idleWith (regsOf 2 0 2 2 32 2 2) with cfg := { params with pitchAlignCheck := .bpp16 } }],
      s.status.busy = false ∧ s.regs.format = formatCode .rgb888 ∧ ¬ TransformRejected s ∧ ¬ DimensionsBad s ∧
      PitchBad s (bytesPerPixel .rgb888)) := by
  unfold TransformRejected DimensionsBad PitchBad; decide

/-- One byte more than the window: OUT as V86, and SRC with a window of 255 bytes. -/
theorem witness_StartRefusesWindowsTooSmall :
    (3#32).getLsbD 0 = true ∧
    (∀ s ∈ [{ idleWith (regsOf 3 0 8 8 32 8 8) with cfg := { params with outWindowBytes := 255 } },
        { idleWith (regsOf 3 0 8 8 32 8 8) with cfg := { params with srcWindowBytes := 255 } }],
      s.status.busy = false ∧ s.regs.format = formatCode .rgba8888 ∧ ¬ TransformRejected s ∧ ¬ DimensionsBad s ∧
      ¬ PitchBad s (bytesPerPixel .rgba8888) ∧
      WindowsTooSmall s (if wantsAlpha .rgba8888 ((3#32).getLsbD 1) then 4 else 3)) := by
  unfold TransformRejected DimensionsBad PitchBad WindowsTooSmall; decide

/-- V85: the pitch is exactly `bpp × width` and both windows are exactly full. -/
theorem witness_AcceptedStartLatchesAndBegins :
    (3#32).getLsbD 0 = true ∧
    (∀ s ∈ [idleWith (regsOf 3 0 8 8 32 8 8)],
      s.status.busy = false ∧ s.regs.format = formatCode .rgba8888 ∧ ¬ TransformRejected s ∧ ¬ DimensionsBad s ∧
      ¬ PitchBad s (bytesPerPixel .rgba8888) ∧
      ¬ WindowsTooSmall s (if wantsAlpha .rgba8888 ((3#32).getLsbD 1) then 4 else 3)) := by
  unfold TransformRejected DimensionsBad PitchBad WindowsTooSmall; decide

/-- The first and the last pixel of the example frame. -/
theorem witness_QuadrantZeroCodesMapThePixel : EvenFrame (frame false 0 0) ∧ EvenFrame (frame false 2 1) := by
  unfold EvenFrame; decide

theorem witness_QuadrantOneCodesMapThePixel :
    OddFrame (frame true 0 0) ∧ OddFrame (frame true 2 1) ∧ (frame true 0 0).cfg.rotSense = .undoCw := by
  unfold OddFrame; decide

theorem witness_QuadrantTwoCodesMapThePixel : EvenFrame (frame false 0 0) ∧ EvenFrame (frame false 2 1) :=
  witness_QuadrantZeroCodesMapThePixel

theorem witness_QuadrantThreeCodesMapThePixel :
    OddFrame (frame true 0 0) ∧ OddFrame (frame true 2 1) ∧ (frame true 0 0).cfg.rotSense = .undoCw :=
  witness_QuadrantOneCodesMapThePixel

theorem witness_TransformCodesComposeFlipThenRotation :
    (if (2 : Fin 4).val % 2 = 0 then EvenFrame (frame false 2 1) else OddFrame (frame false 2 1)) ∧
    (if (3 : Fin 4).val % 2 = 0 then EvenFrame (frame true 2 1) else OddFrame (frame true 2 1)) := by
  unfold EvenFrame OddFrame; decide

/-- An even and an odd quadrant of the example frame, with a pixel in reach. -/
theorem witness_SourcePositionsAreABijection :
    (∀ c ∈ [oriented (frame false 0 0).lcfg 2 true false, oriented (frame true 0 0).lcfg 3 false true],
      DimsAgree (oddQuadrant c.q) c.capW c.capH c.outW c.outH ∧ 2 < c.outW ∧ 1 < c.outH ∧ 1 < c.capW ∧ 1 < c.capH) ∧
    (oriented (frame true 0 0).lcfg 3 false true).q.val % 2 = 1 := by decide

/-- The last pixel of a run whose pitch leaves no padding and whose capture fills its window. -/
theorem witness_PixelReadsStayInTheCaptureAndOffThePadding :
    (latchConfig .rgba8888 { regsOf 3 0 8 8 32 8 8 with alphaReq := true }).Legal params ∧
    7 < (latchConfig .rgba8888 (regsOf 3 0 8 8 32 8 8)).outW ∧
    7 < (latchConfig .rgba8888 (regsOf 3 0 8 8 32 8 8)).outH := by decide

theorem witness_Rgb565ExpandsByReplication : (operand [0x34, 0x12]).wires.bytes = [0x34#8, 0x12#8] := rfl

theorem witness_Rgba4444ReplicatesItsNibbles : (operand [0xCD, 0xAB]).wires.bytes = [0xCD#8, 0xAB#8] := rfl

theorem witness_EightBitFormatsAreCopied :
    (operand [0x80, 0x7F, 0x01]).wires.bytes = [0x80#8, 0x7F#8, 0x01#8] ∧
    (operand [0xFF, 0x00, 0x80, 0x00]).wires.bytes = [0xFF#8, 0x00#8, 0x80#8, 0x00#8] := ⟨rfl, rfl⟩

theorem witness_HeaderStepEmitsTheHeader :
    (running .header 0 0 [] []).phase = .header ∧
    (running .header 0 0 [] [.seq (some .ok)]).turns = .seq (some .ok) :: [] ∧
    (running .header 0 0 [] [.seq (some .error)]).turns = .seq (some .error) :: [] := ⟨rfl, rfl, rfl⟩

/-- A pixel that is not the last of its row, and one that is. -/
theorem witness_PixelStepStoresTheConvertedPixel :
    Inv (running .pixel 0 0 [] [.seq (some .ok)]) ∧ Inv (running .pixel 1 1 rowZero [.seq (some .ok)]) ∧
    (running .pixel 0 0 [] [.seq (some .ok)]).phase = .pixel := ⟨by decide, by decide, rfl⟩

theorem witness_SourceErrorEndsTheRunUnwritten :
    Inv (running .pixel 1 1 rowZero [.seq (some .error)]) ∧
    (running .pixel 1 1 rowZero [.seq (some .error)]).phase = .pixel := by decide

/-- A row that is not the last, and the last. -/
theorem witness_RowStepEmitsTheWholeRow :
    Inv (running .rowemit 0 1 rowZero [.seq (some .ok)]) ∧
    Inv (running .rowemit 1 1 (rowZero ++ rowOne) [.seq (some .error)]) ∧
    (running .rowemit 1 1 (rowZero ++ rowOne) [.seq (some .error)]).phase = .rowemit := ⟨by decide, by decide, rfl⟩

theorem witness_FinalStepFinishesTheRun :
    (running .final 1 1 (rowZero ++ rowOne) [.seq (some .ok)]).phase = .final ∧
    (running .final 1 1 (rowZero ++ rowOne) [.seq (some .ok)]).turns = .seq (some .ok) :: [] := ⟨rfl, rfl⟩

theorem witness_SequencerIsStuckWithoutWorkOrAnswer :
    ({ base with turns := [.seq (some .ok)] } : State).phase = .idle ∧
    (running .header 0 0 [] [.seq none]).phase ≠ .idle ∧
    (running .header 0 0 [] [.seq none]).turns = .seq none :: [] := by decide

/-- The last two bytes of the window. -/
theorem witness_LoadSrcStoresTheBytes :
    ({ base with turns := [.loadSrc 254 (bytes [1, 2])] } : State).status.busy = false ∧
    254 + (bytes [1, 2]).length ≤ ({ base with turns := [.loadSrc 254 (bytes [1, 2])] } : State).cfg.srcWindowBytes := by
  decide

theorem witness_RdOutReturnsTheBytes :
    ({ base with turns := [.rdOut 0 256] } : State).status.busy = false ∧
    0 + 256 ≤ ({ base with turns := [.rdOut 0 256] } : State).cfg.outWindowBytes := by decide

theorem witness_WindowsBelongToTheRun :
    (running .pixel 0 0 [] [.loadSrc 0 []]).status.busy = true ∧
    (running .pixel 0 0 [] [.rdOut 0 0]).turns = .rdOut 0 0 :: [] ∧
    (running .pixel 0 0 [] [.rdOut 0 0]).status.busy = true := by decide

theorem witness_ResetClearsEveryRegister : (running .pixel 0 0 [] [.reset]).turns = .reset :: [] := rfl

/-- A turn of each kind, from states that meet the invariant. -/
theorem witness_EveryStepKeepsTheInvariant :
    (∀ s ∈ [{ ready with turns := [.bus 0x100#9 1#32] }, { ready with turns := [.loadSrc 0 (bytes [1])] },
        { ready with turns := [.rdOut 0 0] }, running .pixel 0 1 [] [.reset],
        running .header 0 0 [] [.seq (some .ok)], running .pixel 0 1 [] [.seq (some .ok)],
        running .rowemit 0 1 rowZero [.seq (some .error)], running .final 1 1 rowZero [.seq (some .ok)]],
      Inv s) ∧
    step (running .pixel 0 1 [] [.seq (some .ok)]) = .next (after (running .pixel 0 1 [] [.seq (some .ok)])) := by
  refine ⟨by decide, rfl⟩

/-- Pixel (0, 1) of scenario A, row 0 done. -/
theorem witness_EveryStepKeepsTheAssembledRows :
    Inv (running .pixel 1 0 rowZero [.seq (some .ok)]) ∧ Assembled (running .pixel 1 0 rowZero [.seq (some .ok)]) ∧
    step (running .pixel 1 0 rowZero [.seq (some .ok)]) =
      .next (after (running .pixel 1 0 rowZero [.seq (some .ok)])) := by
  refine ⟨by decide, by decide, rfl⟩

/-- Scenario A takes 8 sequencer steps (R173). -/
theorem witness_CompletedRunDeliversTheAssembledRaster :
    Inv (running .header 0 0 [] (List.replicate 8 (.seq (some .ok)))) ∧
    (running .header 0 0 [] (List.replicate 8 (.seq (some .ok)))).phase = .header ∧
    2 + (latchConfig .rgb565 sceneRegs).outW * (latchConfig .rgb565 sceneRegs).outH +
      (latchConfig .rgb565 sceneRegs).outH = 8 := ⟨by decide, rfl, rfl⟩

/-- A register write and a `LOADSRC`. -/
theorem witness_OnlyTheHostWritesRegistersAndSrc :
    step { base with turns := [.bus 0x108#9 1#32] } = .next (after { base with turns := [.bus 0x108#9 1#32] }) ∧
    (after { base with turns := [.bus 0x108#9 1#32] }).regs ≠ base.regs ∧
    step { base with turns := [.loadSrc 0 (bytes [1])] } = .next (after { base with turns := [.loadSrc 0 (bytes [1])] }) ∧
    (after { base with turns := [.loadSrc 0 (bytes [1])] }).src ≠ base.src :=
  ⟨rfl, by decide, rfl, by decide⟩

/-- A refused START sets ERR; FINAL accepted sets DONE; an accepted START sets OUT_RGBA. -/
theorem witness_StatusChangesOnlyAtStartEndAndReset :
    step { base with turns := [.bus 0x100#9 1#32] } = .next (after { base with turns := [.bus 0x100#9 1#32] }) ∧
    (after { base with turns := [.bus 0x100#9 1#32] }).status.err ≠ base.status.err ∧
    step (running .final 1 1 [] [.seq (some .ok)]) = .next (after (running .final 1 1 [] [.seq (some .ok)])) ∧
    (after (running .final 1 1 [] [.seq (some .ok)])).status.done ≠ (running .final 1 1 [] []).status.done ∧
    (after { idleWith (regsOf 3 0 8 8 32 8 8) with turns := [.bus 0x100#9 3#32] }).status.outRgba ≠
      base.status.outRgba :=
  ⟨rfl, by decide, rfl, by decide, by decide⟩

theorem witness_LatchedConfigurationIsFixedForTheRun :
    step { ready with turns := [.bus 0x100#9 1#32] } = .next (after { ready with turns := [.bus 0x100#9 1#32] }) ∧
    (after { ready with turns := [.bus 0x100#9 1#32] }).lcfg ≠ ready.lcfg := ⟨rfl, by decide⟩

/-- An abort. -/
theorem witness_NoHostActionCancelsARun :
    step (running .pixel 1 1 rowZero [.seq (some .error)]) =
      .next (after (running .pixel 1 1 rowZero [.seq (some .error)])) ∧
    (running .pixel 1 1 rowZero [.seq (some .error)]).phase ≠ .idle ∧
    (running .pixel 1 1 rowZero [.seq (some .error)]).status.busy = true ∧
    (after (running .pixel 1 1 rowZero [.seq (some .error)])).phase = .idle := ⟨rfl, by decide, by decide, by decide⟩

/-- Pixel (0, 1) over an older byte at offset 6. -/
theorem witness_OnlyPixelStepsWriteOut :
    Inv (running .pixel 1 0 [(6, 1#8)] [.seq (some .ok)]) ∧
    step (running .pixel 1 0 [(6, 1#8)] [.seq (some .ok)]) =
      .next (after (running .pixel 1 0 [(6, 1#8)] [.seq (some .ok)])) ∧
    (after (running .pixel 1 0 [(6, 1#8)] [.seq (some .ok)])).outByte 6 ≠
      (running .pixel 1 0 [(6, 1#8)] [.seq (some .ok)]).outByte 6 := ⟨by decide, rfl, by decide⟩

theorem witness_SinkLogGrowsByOneAnsweredEvent :
    step (running .header 0 0 [] [.seq (some .error)]) = .next (after (running .header 0 0 [] [.seq (some .error)])) ∧
    (after (running .header 0 0 [] [.seq (some .error)])).log ≠ [] := ⟨rfl, by decide⟩

/-- A run of one captured row of one pixel at pitch 4, and two contents of SRC that differ in the padding. -/
def padded (m : Memory) : State :=
  { base with
    status := ⟨true, false, false, false, .noError⟩
    lcfg := latchConfig .rgb565 (regsOf 0 0 1 1 4 1 1)
    phase := .pixel, src := m }

theorem witness_PaddingNeverReachesTheOutput :
    Inv (padded [(0, 1#8), (1, 2#8), (2, 0xAA#8)]) ∧
    (∀ r k, r < (padded []).lcfg.capH → k < (padded []).lcfg.bpp * (padded []).lcfg.capW →
      (padded [(0, 1#8), (1, 2#8), (2, 0xEE#8)]).srcByte (r * (padded []).lcfg.pitch + k) =
        (padded [(0, 1#8), (1, 2#8), (2, 0xAA#8)]).srcByte (r * (padded []).lcfg.pitch + k)) := by
  have h : ∀ r < (padded []).lcfg.capH, ∀ k < (padded []).lcfg.bpp * (padded []).lcfg.capW,
      (padded [(0, 1#8), (1, 2#8), (2, 0xEE#8)]).srcByte (r * (padded []).lcfg.pitch + k) =
        (padded [(0, 1#8), (1, 2#8), (2, 0xAA#8)]).srcByte (r * (padded []).lcfg.pitch + k) := by decide
  exact ⟨by decide, fun r k hr hk => h r hr k hk⟩

theorem witness_StartForgetsEarlierRuns :
    (1#32).getLsbD 0 = true ∧ ready.status.busy = false ∧ exec (.wrCtrl 1#32) ready = .next started ∧
    started.status.busy = true := ⟨rfl, rfl, rfl, rfl⟩

/-- A PIXEL step and a ROWEMIT step over another OUT that agrees on the bytes written so far. -/
theorem witness_RunIgnoresTheBytesOfOutItHasNotWritten :
    (Inv (running .pixel 1 0 rowZero [.seq (some .ok)]) ∧ (running .pixel 1 0 rowZero [.seq (some .ok)]).phase ≠ .idle ∧
      OutAgrees (running .pixel 1 0 rowZero [.seq (some .ok)]) (rowZero ++ [(6, 9#8)]) 6 ∧
      written (running .pixel 1 0 rowZero [.seq (some .ok)]) = 6) ∧
    (Inv (running .rowemit 0 1 rowZero [.seq (some .error)]) ∧
      (running .rowemit 0 1 rowZero [.seq (some .error)]).phase ≠ .idle ∧
      OutAgrees (running .rowemit 0 1 rowZero [.seq (some .error)]) (rowZero ++ [(255, 9#8)]) 6 ∧
      written (running .rowemit 0 1 rowZero [.seq (some .error)]) = 6) := by
  unfold OutAgrees
  exact ⟨⟨by decide, by decide, by decide, rfl⟩, by decide, by decide, by decide, rfl⟩

end Sys2Proof.Tests
end

section
/-! SUPPORT. What one turn of the schedule can do: the decoding of a host register access, and one relation that
lists every effect a turn can have (R6, R74, R124 to R133, R162). The claims about every step are case
analyses of it. -/

namespace Sys2Proof.Machine
open Sys2Proof.Claims

/-! ### The decoding of a register access -/

/-- R69: a selector is the write bit before an offset, and an aligned one decodes as the register map says. -/
theorem decodeBus_append (w : BitVec 1) {off : BitVec 8} (d : Word) (ha : AlignedOffset off) :
    decodeBus (w ++ off) d = .ok (if w.getLsbD 0 then decodeWrite off d else decodeRead off) := by
  have hw : (w ++ off).getLsbD 8 = w.getLsbD 0 := by rw [BitVec.getLsbD_append]; rfl
  simp only [decodeBus, BitVec.extractLsb'_append_eq_right, hw, if_pos ha]

theorem decodeRead_of_unmapped {off : BitVec 8} (h : UnmappedOffset off) : decodeRead off = .rdUnmapped off := by
  unfold decodeRead
  split
  case h_11 => rfl
  all_goals exact absurd h (by decide)

theorem decodeWrite_of_unmapped {off : BitVec 8} (h : UnmappedOffset off) (d : Word) :
    decodeWrite off d = .wrUnmapped off d := by
  unfold decodeWrite
  split
  case h_11 => rfl
  all_goals exact absurd h (by decide)

theorem decodeRead_ne_wrCtrl (off : BitVec 8) (v : Word) : decodeRead off ≠ .wrCtrl v := by
  unfold decodeRead
  split <;> exact Instr.noConfusion

theorem decodeWrite_eq_wrCtrl {off : BitVec 8} {d v : Word} (h : decodeWrite off d = .wrCtrl v) : v = d := by
  unfold decodeWrite at h
  split at h <;> cases h
  rfl

/-- The data word of a decoded CTRL write is the one its turn carries. -/
theorem decodeBus_eq_wrCtrl {sel : BitVec 9} {d v : Word} (h : decodeBus sel d = .ok (.wrCtrl v)) : v = d := by
  unfold decodeBus at h
  simp only at h
  split at h
  · have hi := Except.ok.inj h
    split at hi
    · exact decodeWrite_eq_wrCtrl hi
    · exact absurd hi (decodeRead_ne_wrCtrl _ _)
  · cases h

theorem step_bus {s : State} {sel : BitVec 9} {d : Word} {rest : List Turn} {i : Instr}
    (ht : s.turns = .bus sel d :: rest) (hi : decodeBus sel d = .ok i) : step s = exec i (s.setTurns rest) := by
  simp only [step, ht, runTurn, busTurn, hi]

/-! ### The effect of a turn -/

/-- Each transform code runs the mapper for one of R118's classes. -/
theorem exec_xformInstr (q : Fin 4) (fh fv : Bool) :
    ∃ k, ∀ s, exec (Sys2Proof.xformInstr q fh fv) s = runMapper (senseClass s.cfg.rotSense k) s := by
  fin_cases q <;> cases fh <;> cases fv <;> exact ⟨_, fun _ => rfl⟩

/-- Everything a turn can do to the state it is taken from when it goes on. -/
inductive TurnEffect (s : State) : Turn → State → Prop
  /-- A register read (R47). -/
  | registerRead (sel : BitVec 9) (d v : Word) : TurnEffect s (.bus sel d) (s.busReply v)
  /-- A write to STATUS or to an unmapped offset (R18, R27). -/
  | writeIgnored (sel : BitVec 9) (d : Word) : TurnEffect s (.bus sel d) s
  /-- A configuration write, or a CTRL write that starts nothing (R16, R124). -/
  | registerWritten (sel : BitVec 9) (d : Word) (r : Regs) : TurnEffect s (.bus sel d) (s.setRegs r)
  /-- A START the check refuses (R127). -/
  | startRefused (sel : BitVec 9) (d : Word) (r : Regs) (e : ErrCode) (hstart : IsStart (.bus sel d))
      (hbusy : s.status.busy = false) (he : e ≠ .noError) :
      TurnEffect s (.bus sel d) (((s.setRegs r).setStatus s.status.cleared).failStart e)
  /-- A START that begins a run (R126, R128). -/
  | runBegun (sel : BitVec 9) (d : Word) (r : Regs) (fmt : PixelFormat) (hstart : IsStart (.bus sel d))
      (hbusy : s.status.busy = false) (hfmt : formatOfCode r.format = some fmt)
      (hcheck : checkConfig s.cfg r = .noError) :
      TurnEffect s (.bus sel d) (((s.setRegs r).setStatus s.status.cleared).setLcfg (latchConfig fmt r)).beginRun
  /-- `LOADSRC` (R74). -/
  | sourceLoaded (off : Nat) (bytes : List Byte) (hbusy : s.status.busy = false)
      (hin : off + bytes.length ≤ s.cfg.srcWindowBytes) :
      TurnEffect s (.loadSrc off bytes) (s.setSrc (s.src.writeBytes off bytes))
  /-- `RDOUT` (R74). -/
  | outputRead (off n : Nat) (bs : List Byte) : TurnEffect s (.rdOut off n) (s.setReply (.bytes bs))
  /-- HEADER, accepted (R129). -/
  | headerAccepted (hphase : s.phase = .header) :
      TurnEffect s (.seq (some .ok)) ((s.emit (headerEvent s.lcfg) .ok).setSeq .pixel s.j s.i)
  /-- PIXEL, the source window's answer OK (R130). -/
  | pixelWritten (px : List Byte) (hphase : s.phase = .pixel) (hlen : px.length = s.lcfg.nch)
      (hin : s.outOffset + px.length ≤ s.cfg.outWindowBytes) :
      TurnEffect s (.seq (some .ok))
        ((s.setOut (s.out.writeBytes s.outOffset px)).setWires Wires.idle).advancePixel
  /-- PIXEL, the source window's answer ERROR (R130, R133). -/
  | sourceFailed (hphase : s.phase = .pixel) :
      TurnEffect s (.seq (some .error)) ((s.setWires Wires.idle).enterError .sourceError)
  /-- ROWEMIT, accepted (R131). -/
  | rowAccepted (bytes : List Byte) (hphase : s.phase = .rowemit) :
      TurnEffect s (.seq (some .ok)) (s.emit (.row s.j bytes) .ok).advanceRow
  /-- FINAL, accepted (R132). -/
  | runFinished (hphase : s.phase = .final) :
      TurnEffect s (.seq (some .ok)) (((s.emit .final .ok).setStatus s.status.finished).setSeq .idle s.j s.i)
  /-- An event of HEADER, ROWEMIT or FINAL, refused by the sink (R133). -/
  | eventRefused (ev : SinkEvent) (hphase : s.phase ≠ .idle) :
      TurnEffect s (.seq (some .error)) ((s.emit ev .error).enterError .sinkError)
  /-- The platform's reset (R162). -/
  | blockReset : TurnEffect s .reset (applyReset s)

theorem TurnEffect.of_start {s : State} {sel : BitVec 9} {d : Word} (r : Regs) (hstart : IsStart (.bus sel d))
    (hbusy : s.status.busy = false) : TurnEffect s (.bus sel d) (s.setRegs r).start := by
  rcases (s.setRegs r).start_cases with ⟨e, he, -, heq⟩ | ⟨fmt, hfmt, hcheck, heq⟩ <;> rw [heq]
  · exact .startRefused sel d r e hstart hbusy he
  · exact .runBegun sel d r fmt hstart hbusy hfmt hcheck

theorem TurnEffect.of_bus {s t : State} {sel : BitVec 9} {d : Word} (h : busTurn sel d s = .next t) :
    TurnEffect s (.bus sel d) t := by
  obtain ⟨i, hi, hx⟩ := busTurn_eq_next h
  rcases exec_bus_cases hi s with ⟨v, he⟩ | he | ⟨r, he, -⟩ | ⟨v, rfl, he⟩ <;>
    obtain rfl := Host.Outcome.next.inj (he.symm.trans hx)
  · exact .registerRead sel d v
  · exact .writeIgnored sel d
  · exact .registerWritten sel d r
  · obtain rfl := decodeBus_eq_wrCtrl hi
    rcases s.writeCtrl_cases v with ⟨hw, -⟩ | ⟨hw, hstart, hbusy⟩ <;> rw [hw]
    · exact .registerWritten sel v _
    · exact .of_start _ ⟨sel, v, rfl, hi, hstart⟩ hbusy

theorem TurnEffect.of_pixel {s t : State} {a : Answer} (hphase : s.phase = .pixel)
    (h : pixelStep a s = .next t) : TurnEffect s (.seq (some a)) t := by
  obtain ⟨s1, bs, hx, -, hcases⟩ := pixelStep_eq_next h
  obtain ⟨k, hk⟩ := exec_xformInstr s.lcfg.q s.lcfg.fh s.lcfg.fv
  obtain ⟨-, rfl⟩ := runMapper_eq_next.mp ((hk s).symm.trans hx)
  rcases hcases with ⟨rfl, rfl⟩ | ⟨rfl, px, -, hlen, hin, rfl⟩
  · exact .sourceFailed hphase
  · exact .pixelWritten px hphase hlen (by rw [hlen]; exact hin)

theorem TurnEffect.of_phaseStep {s t : State} {a : Answer} (h : phaseStep a s = .next t) :
    TurnEffect s (.seq (some a)) t := by
  unfold phaseStep at h
  split at h
  case h_1 => cases h
  case h_2 hphase =>
    cases h
    rcases headerStep_cases a s with ⟨rfl, heq⟩ | ⟨rfl, heq⟩ <;> rw [heq]
    · exact .headerAccepted hphase
    · exact .eventRefused _ (by simp [hphase])
  case h_3 hphase => exact .of_pixel hphase h
  case h_4 hphase =>
    obtain ⟨bytes, -, ⟨rfl, rfl⟩ | ⟨rfl, rfl⟩⟩ := rowemitStep_eq_next h
    · exact .rowAccepted bytes hphase
    · exact .eventRefused _ (by simp [hphase])
  case h_5 hphase =>
    cases h
    rcases finalStep_cases a s with ⟨rfl, heq⟩ | ⟨rfl, heq⟩ <;> rw [heq]
    · exact .runFinished hphase
    · exact .eventRefused _ (by simp [hphase])

/-- The inversion of a turn: if it goes on, it had one of the effects. -/
theorem runTurn_effect {turn : Turn} {s t : State} (h : runTurn turn s = .next t) : TurnEffect s turn t := by
  cases turn with
  | bus sel d => exact .of_bus h
  | loadSrc off bytes =>
    obtain ⟨hbusy, hin, rfl⟩ := loadSrcTurn_eq_next.mp h
    exact .sourceLoaded off bytes hbusy hin
  | rdOut off n =>
    obtain ⟨-, -, rfl⟩ := rdOutTurn_eq_next.mp h
    exact .outputRead off n _
  | seq answer =>
    obtain ⟨a, rfl, -, hstep⟩ := sequencerTurn_eq_next.mp h
    exact .of_phaseStep hstep
  | reset =>
    cases h
    exact .blockReset

theorem step_effect {s t : State} {turn : Turn} {rest : List Turn} (ht : s.turns = turn :: rest)
    (h : step s = .next t) : TurnEffect (s.setTurns rest) turn t := by
  unfold step at h
  rw [ht] at h
  exact runTurn_effect h

end Sys2Proof.Machine
end

section
/-! SUPPORT. What every turn keeps: its frame on the parameters, the schedule, the registers, SRC, STATUS and the
sink log, and the parts of the machine's invariant. -/

namespace Sys2Proof.Machine
open Sys2Proof.Claims

variable {s t : State} {turn : Turn}

/-! ### Frames -/

theorem TurnEffect.cfg_eq (h : TurnEffect s turn t) : t.cfg = s.cfg := by
  cases h <;> simp

theorem TurnEffect.turns_eq (h : TurnEffect s turn t) : t.turns = s.turns := by
  cases h <;> simp

/-- R28: a register changes by reset or by a register access. -/
theorem TurnEffect.regs_changed (h : TurnEffect s turn t) (hne : t.regs ≠ s.regs) :
    turn = .reset ∨ ∃ sel d, turn = .bus sel d := by
  cases h
  case blockReset => exact .inl rfl
  case registerRead sel d _ | writeIgnored sel d | registerWritten sel d _ | startRefused sel d _ _ _ _ _
      | runBegun sel d _ _ _ _ _ _ => exact .inr ⟨sel, d, rfl⟩
  all_goals exact absurd (by simp) hne

/-- R31: SRC changes by `LOADSRC`. -/
theorem TurnEffect.src_changed (h : TurnEffect s turn t) (hne : t.src ≠ s.src) :
    ∃ off bytes, turn = .loadSrc off bytes := by
  cases h
  case sourceLoaded off bytes _ _ => exact ⟨off, bytes, rfl⟩
  all_goals exact absurd (by simp) hne

/-- R18: STATUS changes by reset, at a START while not BUSY, or where the sequencer ends a run, which keeps
OUT_RGBA. -/
theorem TurnEffect.status_cases (h : TurnEffect s turn t) :
    t.status = s.status ∨ turn = .reset ∨ (IsStart turn ∧ s.status.busy = false) ∨
      (t.status.outRgba = s.status.outRgba ∧ ∃ a, turn = .seq (some a) ∧ s.phase ≠ .idle ∧ t.phase = .idle) := by
  cases h
  case blockReset => exact .inr (.inl rfl)
  case startRefused hstart hbusy _ | runBegun hstart hbusy _ _ => exact .inr (.inr (.inl ⟨hstart, hbusy⟩))
  case sourceFailed hphase | runFinished hphase =>
    exact .inr (.inr (.inr ⟨by simp, _, rfl, by simp [hphase], by simp⟩))
  case eventRefused hphase => exact .inr (.inr (.inr ⟨by simp, _, rfl, hphase, by simp⟩))
  all_goals exact .inl (by simp)

/-- R33, R134: one turn emits at most one event, with the answer it carries. -/
theorem TurnEffect.log_cases (h : TurnEffect s turn t) :
    t.log = s.log ∨ ∃ ev a, turn = .seq (some a) ∧ t.log = s.log ++ [(ev, a)] := by
  cases h
  case headerAccepted | rowAccepted | runFinished | eventRefused => exact .inr ⟨_, _, rfl, by simp; rfl⟩
  all_goals exact .inl (by simp)

/-! ### The invariant's parts -/

/-- R125, R126: the configuration a passed check latches is legal. -/
theorem latchConfig_legal {p : Params} {r : Regs} {fmt : PixelFormat} (hfmt : formatOfCode r.format = some fmt)
    (hcheck : checkConfig p r = .noError) : (latchConfig fmt r).Legal p := by
  obtain ⟨fmt', hfmt', -, hdim, hpitch, halign, hsrc, hout⟩ := checkConfig_eq_noError hcheck
  obtain rfl : fmt = fmt' := Option.some.inj (hfmt.symm.trans hfmt')
  simp only [not_or, not_not] at hdim
  obtain ⟨hcapW, hcapH, houtW, houtH, hagree⟩ := hdim
  have pos_of_ne {w : Word} (h : w ≠ 0#32) : 1 ≤ w.toNat := Nat.pos_of_ne_zero (BitVec.toNat_ne.mp h)
  have halpha : alphaOutOf fmt r.alphaReq = true → hasAlpha fmt = true := fun h =>
    (Bool.and_eq_true_iff.mp h).1
  exact ⟨pos_of_ne hcapW, pos_of_ne hcapH, pos_of_ne houtW, pos_of_ne houtH, hagree, rfl, hpitch, halign, halpha,
    rfl, rfl, (cvtOpOf_alphaOutOf _ _).symm, hsrc, hout⟩

theorem windowsOk_of_eq (hw : WindowsOk s) (hcfg : t.cfg = s.cfg) (hsrc : t.src = s.src) (hout : t.out = s.out) :
    WindowsOk t := by
  unfold WindowsOk
  rw [hcfg, hsrc, hout]
  exact hw

theorem TurnEffect.windowsOk (h : TurnEffect s turn t) (hw : WindowsOk s) : WindowsOk t := by
  have ⟨hsrc, hout, hsrcIn, houtIn⟩ := hw
  cases h
  case sourceLoaded hin =>
    exact ⟨Memory.wf_writeBytes _ _ hsrc, hout, Memory.within_writeBytes _ hsrcIn hin, houtIn⟩
  case pixelWritten px _ _ hin =>
    have hwritten : WindowsOk (s.setOut (s.out.writeBytes s.outOffset px)) :=
      ⟨hsrc, Memory.wf_writeBytes _ _ hout, hsrcIn, Memory.within_writeBytes _ houtIn hin⟩
    exact windowsOk_of_eq hwritten (by simp) (by simp) (by simp)
  case blockReset => exact ⟨hsrc, .nil, hsrcIn, fun _ hmem => nomatch hmem⟩
  all_goals exact windowsOk_of_eq hw (by simp) (by simp) (by simp)

theorem State.advancePixel_phase_ne_idle (s : State) : s.advancePixel.phase ≠ .idle := by
  rcases s.advancePixel_cases with ⟨-, heq⟩ | ⟨-, heq⟩ <;> simp [heq]

theorem State.advanceRow_phase_ne_idle (s : State) : s.advanceRow.phase ≠ .idle := by
  rcases s.advanceRow_cases with ⟨-, heq⟩ | ⟨-, heq⟩ <;> simp [heq]

theorem statusOk_of_eq (hs : StatusOk s) (hstatus : t.status = s.status)
    (hphase : t.phase ≠ .idle ↔ s.phase ≠ .idle) : StatusOk t := by
  unfold StatusOk
  rw [hstatus, hphase]
  exact hs

theorem StatusOk.phase_idle (hs : StatusOk s) (hbusy : s.status.busy = false) : s.phase = .idle := by
  obtain ⟨hbusyIff, -⟩ := hs
  simpa [hbusy] using hbusyIff

/-- R151: an abort leaves STATUS as R18 says, whatever it was. -/
theorem statusOk_enterError (s : State) {e : ErrCode} (he : e ≠ .noError) : StatusOk (s.enterError e) := by
  simp [StatusOk, he]

theorem TurnEffect.statusOk (h : TurnEffect s turn t) (hs : StatusOk s) : StatusOk t := by
  have ⟨hbusyIff, hrunning, _, hcode⟩ := hs
  cases h
  case startRefused e _ hbusy he =>
    simp [StatusOk, StatusOk.phase_idle hs hbusy, he]
  case runBegun => simp [StatusOk]
  case headerAccepted hphase => exact statusOk_of_eq hs (by simp) (by simp [hphase])
  case pixelWritten hphase _ _ =>
    exact statusOk_of_eq hs (by simp) (by simp [hphase, State.advancePixel_phase_ne_idle])
  case rowAccepted hphase =>
    exact statusOk_of_eq hs (by simp) (by simp [hphase, State.advanceRow_phase_ne_idle])
  case runFinished hphase =>
    have hbusy : s.status.busy = true := hbusyIff.mpr (by simp [hphase])
    obtain ⟨-, herr⟩ := hrunning hbusy
    simp [StatusOk, herr, hcode.mp herr]
  case sourceFailed | eventRefused => exact statusOk_enterError _ (by decide)
  case blockReset => simp [StatusOk, Status.reset]
  all_goals exact statusOk_of_eq hs (by simp) (by simp)

/-! ### Where the sequencer stands in each phase (R30) -/

theorem seqOk_of_idle (h : s.phase = .idle) : seqOk s = true := by simp [seqOk, h]

theorem seqOk_iff_of_header (h : s.phase = .header) : seqOk s = true ↔ s.j = 0 ∧ s.i = 0 := by simp [seqOk, h]

theorem seqOk_iff_of_pixel (h : s.phase = .pixel) :
    seqOk s = true ↔ s.j < s.lcfg.outH ∧ s.i < s.lcfg.outW := by simp [seqOk, h]

theorem seqOk_iff_of_rowemit (h : s.phase = .rowemit) :
    seqOk s = true ↔ s.j < s.lcfg.outH ∧ s.i = s.lcfg.outW - 1 := by simp [seqOk, h]

theorem seqOk_iff_of_final (h : s.phase = .final) : seqOk s = true ↔ s.j = s.lcfg.outH - 1 := by simp [seqOk, h]

theorem seqOk_advancePixel (hj : s.j < s.lcfg.outH) (hi : s.i < s.lcfg.outW) : seqOk s.advancePixel = true := by
  rcases s.advancePixel_cases with ⟨hnext, heq⟩ | ⟨hlast, heq⟩ <;> rw [heq]
  · exact (seqOk_iff_of_pixel rfl).mpr ⟨hj, hnext⟩
  · exact (seqOk_iff_of_rowemit rfl).mpr ⟨hj, by simp; omega⟩

theorem seqOk_advanceRow (hj : s.j < s.lcfg.outH) (hw : 1 ≤ s.lcfg.outW) : seqOk s.advanceRow = true := by
  rcases s.advanceRow_cases with ⟨hnext, heq⟩ | ⟨hlast, heq⟩ <;> rw [heq]
  · exact (seqOk_iff_of_pixel rfl).mpr ⟨hnext, hw⟩
  · exact (seqOk_iff_of_final rfl).mpr (by simp; omega)

theorem RunOk.out_pos (hr : RunOk s) (h : s.phase ≠ .idle) : 1 ≤ s.lcfg.outW ∧ 1 ≤ s.lcfg.outH := by
  obtain ⟨⟨-, -, hW, hH, -⟩, -⟩ := hr h
  exact ⟨hW, hH⟩

theorem seqOk_of_eq (hq : seqOk s = true) (hlcfg : t.lcfg = s.lcfg) (hphase : t.phase = s.phase) (hj : t.j = s.j)
    (hi : t.i = s.i) : seqOk t = true := by
  unfold seqOk at *
  rw [hlcfg, hphase, hj, hi]
  exact hq

theorem TurnEffect.seqOk (h : TurnEffect s turn t) (hr : RunOk s) (hq : seqOk s = true) :
    Machine.seqOk t = true := by
  cases h
  case runBegun => exact (seqOk_iff_of_header rfl).mpr ⟨rfl, rfl⟩
  case headerAccepted hphase =>
    obtain ⟨hj, hi⟩ := (seqOk_iff_of_header hphase).mp hq
    obtain ⟨hW, hH⟩ := RunOk.out_pos hr (by simp [hphase])
    exact (seqOk_iff_of_pixel rfl).mpr ⟨by simp [hj]; omega, by simp [hi]; omega⟩
  case pixelWritten hphase _ _ =>
    obtain ⟨hj, hi⟩ := (seqOk_iff_of_pixel hphase).mp hq
    exact seqOk_advancePixel hj hi
  case rowAccepted hphase =>
    obtain ⟨hj, -⟩ := (seqOk_iff_of_rowemit hphase).mp hq
    exact seqOk_advanceRow hj (RunOk.out_pos hr (by simp [hphase])).1
  case sourceFailed | runFinished | eventRefused | blockReset => exact seqOk_of_idle rfl
  all_goals exact seqOk_of_eq hq (by simp) (by simp) (by simp) (by simp)

theorem runOk_of_eq (hr : RunOk s) (hcfg : t.cfg = s.cfg) (hlcfg : t.lcfg = s.lcfg)
    (hrgba : t.status.outRgba = s.status.outRgba) (hphase : t.phase ≠ .idle → s.phase ≠ .idle) : RunOk t := by
  intro hrun
  rw [hcfg, hlcfg, hrgba]
  exact hr (hphase hrun)

theorem TurnEffect.runOk (h : TurnEffect s turn t) (hs : StatusOk s) (hr : RunOk s) : RunOk t := by
  cases h
  case startRefused hbusy _ =>
    exact fun hrun => absurd (StatusOk.phase_idle hs hbusy) hrun
  case runBegun hfmt hcheck => exact fun _ => ⟨latchConfig_legal hfmt hcheck, rfl⟩
  case headerAccepted hphase | pixelWritten hphase _ _ | rowAccepted hphase =>
    exact runOk_of_eq hr (by simp) (by simp) (by simp) (by simp [hphase])
  case sourceFailed | runFinished | eventRefused | blockReset => exact fun hrun => absurd rfl hrun
  all_goals exact runOk_of_eq hr (by simp) (by simp) (by simp) (by simp)

theorem TurnEffect.wires_idle (h : TurnEffect s turn t) (hw : s.wires = Wires.idle) : t.wires = Wires.idle := by
  cases h <;> simp [hw]

theorem TurnEffect.inv (h : TurnEffect s turn t) (hinv : Inv s) : Inv t := by
  obtain ⟨hcfg, hwin, hstatus, hseq, hrun, hwires⟩ := hinv
  exact ⟨h.cfg_eq ▸ hcfg, h.windowsOk hwin, h.statusOk hstatus, h.seqOk hrun hseq,
    h.runOk hstatus hrun, h.wires_idle hwires⟩

end Sys2Proof.Machine
end

section
/-! SUPPORT. The statements of 10_state.md: what the register port does, and what every step of the machine
keeps. -/

namespace Sys2Proof.Machine

/-! ### STATUS and CTRL as words -/

theorem toNat_append_eq_add {n m : Nat} (x : BitVec n) (y : BitVec m) :
    (x ++ y).toNat = x.toNat * 2 ^ m + y.toNat := by
  rw [BitVec.toNat_append, ← Nat.shiftLeft_add_eq_or_of_lt y.isLt, Nat.shiftLeft_eq]

/-- R61: the fields of STATUS, lowest first, as numbers. -/
theorem Status.toNat_word (st : Status) :
    st.word.toNat = st.errCode.code.toNat * 2 ^ 8 + st.outRgba.toNat * 2 ^ 3 + st.err.toNat * 2 ^ 2 +
      st.done.toNat * 2 + st.busy.toNat := by
  simp only [Status.word, toNat_append_eq_add, BitVec.toNat_ofBool, BitVec.toNat_zero]
  omega

/-- R61: the low bits of a STATUS word. -/
theorem Status.getLsbD_word (st : Status) :
    st.word.getLsbD 0 = st.busy ∧ st.word.getLsbD 1 = st.done ∧ st.word.getLsbD 2 = st.err ∧
      st.word.getLsbD 3 = st.outRgba := by
  simp only [Status.word, BitVec.getLsbD_append, BitVec.getLsbD_ofBool]
  exact ⟨rfl, rfl, rfl, rfl⟩

theorem Status.getLsbD_word_reserved (st : Status) {k : Nat} (hlo : 4 ≤ k) (hhi : k < 8) :
    st.word.getLsbD k = false := by
  simp only [Status.word, BitVec.getLsbD_append]
  interval_cases k <;> rfl

/-- R61, R62: the bits of a STATUS word from 8 on are the error code. -/
theorem Status.word_div (st : Status) : st.word.toNat / 2 ^ 8 = st.errCode.code.toNat := by
  have hbusy := st.busy.toNat_le
  have hdone := st.done.toNat_le
  have herr := st.err.toNat_le
  have hrgba := st.outRgba.toNat_le
  rw [st.toNat_word]
  omega

theorem ctrlReadData_eq (a : Bool) : ctrlReadData a = if a then 0x00000002#32 else 0x00000000#32 := by
  cases a <;> rfl

end Sys2Proof.Machine
end

section
open Sys2Proof Sys2Proof.Machine Sys2Proof.Claims

/-! ### Every step -/

/-- Settles O47: the effect of a turn keeps each part of the invariant, and taking the turn off the schedule
touches none. -/
theorem everyStepKeepsTheInvariant : Obligations.EveryStepKeepsTheInvariant := by
  intro s t hinv hstep
  obtain ⟨turn, rest, -, hrun⟩ := step_eq_next.mp hstep
  have hinv' : Inv (s.setTurns rest) := hinv
  exact (runTurn_effect hrun).inv hinv'

/-- Settles O50: the frame of a turn's effect, field by field. -/
theorem onlyTheHostWritesRegistersAndSrc : Obligations.OnlyTheHostWritesRegistersAndSrc := by
  intro s t turn rest hturns hstep
  have heffect := step_effect hturns hstep
  exact ⟨heffect.cfg_eq, heffect.turns_eq, heffect.regs_changed, heffect.src_changed⟩

/-- Settles O51: the three ways a turn's effect can change STATUS; the end of a run keeps OUT_RGBA. -/
theorem statusChangesOnlyAtStartEndAndReset : Obligations.StatusChangesOnlyAtStartEndAndReset := by
  intro s t turn rest hturns hstep
  rcases (step_effect hturns hstep).status_cases with hsame | hreset | hstart | ⟨hrgba, hend⟩
  · simp [hsame]
  · exact ⟨fun _ => .inl hreset, fun _ => .inl hreset⟩
  · exact ⟨fun _ => .inr (.inl hstart), fun _ => .inr hstart⟩
  · exact ⟨fun _ => .inr (.inr hend), fun hne => absurd hrgba hne⟩

/-- Settles O55: the sequencer's effects emit at most one event, no other turn emits any. -/
theorem sinkLogGrowsByOneAnsweredEvent : Obligations.SinkLogGrowsByOneAnsweredEvent :=
  fun _ _ _ _ hturns hstep => (step_effect hturns hstep).log_cases

/-- Settles O46: the OPEN window sizes are successors, and in IDLE nothing is asked of `lcfg`. -/
theorem resetMeetsTheInvariant : Obligations.ResetMeetsTheInvariant := by
  have hcfg : State.reset.cfg.Ok := ⟨Nat.le_add_left _ _, Nat.le_add_left _ _, by decide⟩
  have hwindows : WindowsOk State.reset := by simp [WindowsOk, Memory.wf, State.reset]
  have hstatus : StatusOk State.reset := by simp [StatusOk, State.reset, Status.reset]
  exact ⟨hcfg, hwindows, hstatus, seqOk_of_idle rfl, fun hrun => absurd rfl hrun, rfl⟩

/-! ### The register port -/

/-- Settles O12: a STATUS read returns the STATUS word. -/
theorem statusReadShowsEveryField : Obligations.StatusReadShowsEveryField := by
  intro s
  obtain ⟨hbusy, hdone, herr, hrgba⟩ := s.status.getLsbD_word
  refine ⟨s.status.word, rfl, hbusy, hdone, herr, hrgba, fun _ => s.status.getLsbD_word_reserved, ?_⟩
  rw [s.status.word_div]
  cases s.status.errCode <;> rfl

/-- Settles O9: each read replies with its register. -/
theorem configurationReadsReturnTheStoredWord : Obligations.ConfigurationReadsReturnTheStoredWord :=
  fun _ => ⟨rfl, rfl, rfl, rfl, rfl, rfl, rfl, rfl⟩

/-- Settles O10: each write sets its register, with no condition on the state. -/
theorem configurationWritesStoreAll32Bits : Obligations.ConfigurationWritesStoreAll32Bits :=
  fun _ _ => ⟨rfl, rfl, rfl, rfl, rfl, rfl, rfl, rfl⟩

/-- Settles O11: the word a CTRL read replies with, for each value of ALPHA_REQ. -/
theorem ctrlReadsAlphaReqInBitOne : Obligations.CtrlReadsAlphaReqInBitOne := by
  intro s
  rw [← ctrlReadData_eq]
  rfl

/-- Settles O13: the meaning of the write is the state itself. -/
theorem statusWritesAreIgnored : Obligations.StatusWritesAreIgnored :=
  fun _ _ => rfl

/-- Settles O14: an aligned offset from 0x28 on decodes to the unmapped access, whatever the write bit. -/
theorem unmappedOffsetsReadZeroAndIgnoreWrites : Obligations.UnmappedOffsetsReadZeroAndIgnoreWrites := by
  intro s off d hoff halign
  have hread : decodeBus (0#1 ++ off) d = .ok (.rdUnmapped off) := by
    rw [decodeBus_append _ _ halign, decodeRead_of_unmapped hoff]
    rfl
  have hwrite : decodeBus (1#1 ++ off) d = .ok (.wrUnmapped off d) := by
    rw [decodeBus_append _ _ halign, decodeWrite_of_unmapped hoff]
    rfl
  exact ⟨rfl, rfl, fun _ hturns => step_bus hturns hread, fun _ hturns => step_bus hturns hwrite⟩

/-- Settles O15: without START a CTRL write is its register update alone. -/
theorem ctrlWriteWithoutStartStoresAlphaReq : Obligations.CtrlWriteWithoutStartStoresAlphaReq := by
  intro s d hstart
  rcases s.writeCtrl_cases d with ⟨heq, -⟩ | ⟨-, hset, -⟩
  · exact congrArg Host.Outcome.next heq
  · rw [hstart] at hset
    cases hset

end

section
/-! SUPPORT. The statements of 20_memory.md: which host moves a turn refuses, where a run writes OUT, and that the
sequencer sees of SRC only the captured pixels. -/

namespace Sys2Proof.Machine

/-! ### Turns without a move (R47, R52) -/

theorem step_of_turns {s : State} {turn : Turn} {rest : List Turn} (ht : s.turns = turn :: rest) :
    step s = runTurn turn (s.setTurns rest) := by
  simp only [step, ht]

/-- R69: the offset is the low byte of the selector, so it is aligned when the selector is a multiple of 4. -/
theorem alignedOffset_extractLsb'_iff (sel : BitVec 9) :
    AlignedOffset (sel.extractLsb' 0 8) ↔ sel.toNat % 4 = 0 := by
  simp only [AlignedOffset, BitVec.extractLsb'_toNat, Nat.shiftRight_zero]
  omega

theorem decodeBus_of_misaligned {sel : BitVec 9} (d : Word) (h : sel.toNat % 4 ≠ 0) :
    decodeBus sel d = .error (.misalignedOffset sel) :=
  if_neg (mt (alignedOffset_extractLsb'_iff sel).mp h)

theorem loadSrcTurn_of_busy {s : State} (off : Nat) (bytes : List Byte) (h : s.status.busy = true) :
    loadSrcTurn off bytes s = .refused .noMoveSrcWriteWhileBusy :=
  if_pos h

theorem rdOutTurn_of_busy {s : State} (off n : Nat) (h : s.status.busy = true) :
    rdOutTurn off n s = .refused .noMoveOutAccessWhileBusy :=
  if_pos h

/-! ### Where a run writes OUT (R42, R130) -/

/-- A turn that is no reset changes only the bytes of OUT where a PIXEL step stores its pixel. -/
theorem TurnEffect.outByte_changed {s t : State} {turn : Turn} {a : Nat} (h : TurnEffect s turn t)
    (hreset : turn ≠ .reset) (hne : t.outByte a ≠ s.outByte a) :
    turn = .seq (some .ok) ∧ s.phase = .pixel ∧ a < s.outOffset + s.lcfg.nch := by
  cases h
  case pixelWritten px hphase hlen _ =>
    refine ⟨rfl, hphase, ?_⟩
    by_contra ha
    refine hne ?_
    calc _ = (s.setOut (s.out.writeBytes s.outOffset px)).outByte a :=
          State.outByte_congr (by simp) (by simp) a
      _ = s.outByte a := by rw [State.outByte_setOut_writeBytes, if_neg (by omega)]
  case blockReset => exact absurd rfl hreset
  all_goals exact absurd (State.outByte_congr (by simp) (by simp) a) hne

/-- R42: under a latched configuration every output pixel lies in the first `outPitch × Ho` bytes of OUT. -/
theorem State.outOffset_add_nch_le {s : State} (hlegal : s.lcfg.Legal s.cfg) (hj : s.j < s.lcfg.outH)
    (hi : s.i < s.lcfg.outW) : s.outOffset + s.lcfg.nch ≤ s.lcfg.outPitch * s.lcfg.outH := by
  obtain ⟨-, -, -, -, -, -, -, -, -, -, hpitch, -⟩ := hlegal
  calc s.outOffset + s.lcfg.nch = s.lcfg.outPitch * s.j + s.lcfg.nch * (s.i + 1) := by
        rw [State.outOffset]; ring
    _ ≤ s.lcfg.outPitch * s.j + s.lcfg.nch * s.lcfg.outW := by gcongr; exact hi
    _ = s.lcfg.outPitch * (s.j + 1) := by rw [← hpitch]; ring
    _ ≤ s.lcfg.outPitch * s.lcfg.outH := by gcongr; exact hj

/-! ### Parts of a step that do the same after an update of the state -/

/-- From `s`, `f` does the same whether or not the update `u` came first: it stops alike, or it goes on to the next
state that `u` gives. -/
def CommutesAt (u : State → State) (f : State → Host.Outcome State Fault Refusal) (s : State) : Prop :=
  f (u s) = andThen (f s) fun t => .next (u t)

/-- Two parts in sequence commute with an update if the second does wherever the first goes on to. -/
theorem CommutesAt.andThen {u : State → State} {f g : State → Host.Outcome State Fault Refusal} {s : State}
    (hf : CommutesAt u f s) (hg : ∀ t, f s = .next t → CommutesAt u g t) :
    CommutesAt u (fun s => andThen (f s) g) s := by
  unfold CommutesAt at *
  cases hfs : f s with
  | next t => simpa [hf, hfs] using hg t hfs
  | fault r => simp [hf, hfs, Machine.andThen]
  | refused r => simp [hf, hfs, Machine.andThen]

/-! ### What the sequencer sees of SRC (R41, R120) -/

/-- The contents `m` of SRC agree with those of the state on the captured pixels (R39). -/
def CaptureAgrees (s : State) (m : Memory) : Prop :=
  ∀ r k, r < s.lcfg.capH → k < s.lcfg.bpp * s.lcfg.capW →
    (s.setSrc m).srcByte (r * s.lcfg.pitch + k) = s.srcByte (r * s.lcfg.pitch + k)

theorem State.outByte_setSrc (s : State) (m : Memory) (a : Nat) : (s.setSrc m).outByte a = s.outByte a :=
  State.outByte_congr rfl rfl a

theorem State.outOffset_setSrc (s : State) (m : Memory) : (s.setSrc m).outOffset = s.outOffset := rfl

theorem State.advancePixel_setSrc (s : State) (m : Memory) :
    (s.setSrc m).advancePixel = s.advancePixel.setSrc m := by
  unfold State.advancePixel
  rw [State.setSrc_i, State.setSrc_lcfg]
  split <;> rfl

theorem State.advanceRow_setSrc (s : State) (m : Memory) : (s.setSrc m).advanceRow = s.advanceRow.setSrc m := by
  unfold State.advanceRow
  rw [State.setSrc_j, State.setSrc_lcfg]
  split <;> rfl

theorem State.memWrite_setSrc (s : State) (m : Memory) (off : Nat) (bs : List Byte) :
    (s.setSrc m).memWrite off bs = (s.memWrite off bs).map (State.setSrc · m) := by
  unfold State.memWrite
  rw [State.setSrc_cfg]
  split <;> rfl

/-- R92, R94: the mapper names a captured pixel wherever it is defined. -/
theorem classPos_lt {k : MapClass} {c : RunConfig} {i j : Nat} (h : MapDomain (classOdd k) c i j) :
    (classPos k c i j).1 < c.capW ∧ (classPos k c i j).2 < c.capH := by
  obtain ⟨hi, hj, hdims⟩ := h
  cases k <;> simp only [classOdd, DimsAgree, if_true, Bool.false_eq_true, if_false] at hdims <;>
    simp only [classPos] <;> omega

/-- R41: reading a captured pixel gives the same bytes from contents of SRC that agree on the capture. -/
theorem State.memRead_setSrc {s : State} {m : Memory} {col row : Nat} (hagree : CaptureAgrees s m)
    (hcol : col < s.lcfg.capW) (hrow : row < s.lcfg.capH) :
    (s.setSrc m).memRead (pixelOffset s.lcfg col row) s.lcfg.bpp =
      s.memRead (pixelOffset s.lcfg col row) s.lcfg.bpp := by
  have hbyte : ∀ k, k < s.lcfg.bpp →
      (s.setSrc m).srcByte (pixelOffset s.lcfg col row + k) = s.srcByte (pixelOffset s.lcfg col row + k) := by
    intro k hk
    have hin : col * s.lcfg.bpp + k < s.lcfg.bpp * s.lcfg.capW :=
      calc col * s.lcfg.bpp + k < s.lcfg.bpp * (col + 1) := by rw [mul_comm, Nat.mul_succ]; omega
        _ ≤ s.lcfg.bpp * s.lcfg.capW := by gcongr; exact hcol
    rw [pixelOffset, add_assoc]
    exact hagree row _ hrow hin
  have hbytes : ((List.range s.lcfg.bpp).map fun k => (s.setSrc m).srcByte (pixelOffset s.lcfg col row + k)) =
      (List.range s.lcfg.bpp).map fun k => s.srcByte (pixelOffset s.lcfg col row + k) :=
    List.map_congr_left fun k hk => hbyte k (List.mem_range.mp hk)
  simp only [State.memRead, State.setSrc_cfg, hbytes]

section
variable (m : Memory) (s : State)

theorem runMapper_commutesAt_setSrc (k : MapClass) : CommutesAt (·.setSrc m) (runMapper k) s := by
  unfold CommutesAt runMapper
  by_cases hdom : MapDomain (classOdd k) s.lcfg s.i s.j
  · have hdom' : MapDomain (classOdd k) (s.setSrc m).lcfg (s.setSrc m).i (s.setSrc m).j := hdom
    rw [if_pos hdom, if_pos hdom']
    rfl
  · have hdom' : ¬ MapDomain (classOdd k) (s.setSrc m).lcfg (s.setSrc m).i (s.setSrc m).j := hdom
    rw [if_neg hdom, if_neg hdom']
    rfl

theorem runConverter_commutesAt_setSrc (f : List Byte → Option (List Byte)) :
    CommutesAt (·.setSrc m) (runConverter f) s := by
  unfold CommutesAt runConverter
  rw [State.setSrc_wires]
  cases f s.wires.bytes <;> rfl

theorem writePixel_commutesAt_setSrc : CommutesAt (·.setSrc m) writePixel s := by
  unfold CommutesAt writePixel
  rw [State.setSrc_wires, State.setSrc_lcfg, State.outOffset_setSrc, State.memWrite_setSrc]
  split
  · cases s.memWrite s.outOffset s.wires.pixel with
    | none => rfl
    | some t => exact congrArg Host.Outcome.next ((t.setWires Wires.idle).advancePixel_setSrc m)
  · rfl

theorem rowemitStep_commutesAt_setSrc (a : Answer) : CommutesAt (·.setSrc m) (rowemitStep a) s := by
  have hrange : (s.setSrc m).outRange (s.j * s.lcfg.outPitch) s.lcfg.outPitch =
      s.outRange (s.j * s.lcfg.outPitch) s.lcfg.outPitch :=
    State.outRange_congr rfl fun b _ _ => s.outByte_setSrc m b
  unfold CommutesAt rowemitStep
  rw [State.setSrc_j, State.setSrc_lcfg, hrange]
  cases s.outRange (s.j * s.lcfg.outPitch) s.lcfg.outPitch with
  | none => rfl
  | some bytes =>
    cases a with
    | ok => exact congrArg Host.Outcome.next ((s.emit (.row s.j bytes) .ok).advanceRow_setSrc m)
    | error => rfl

variable {m s}

/-- R130: once the mapper has named a captured pixel, the rest of a PIXEL step reads nothing else of SRC. -/
theorem readPixel_commutesAt_setSrc {col row : Nat} (a : Answer) (hagree : CaptureAgrees s m)
    (hcol : col < s.lcfg.capW) (hrow : row < s.lcfg.capH) (hoff : s.wires.srcOff = pixelOffset s.lcfg col row) :
    CommutesAt (·.setSrc m) (readPixel a) s := by
  have hread : (s.setSrc m).memRead s.wires.srcOff s.lcfg.bpp = s.memRead s.wires.srcOff s.lcfg.bpp := by
    rw [hoff]
    exact State.memRead_setSrc hagree hcol hrow
  unfold CommutesAt readPixel
  rw [State.setSrc_wires, State.setSrc_lcfg, hread]
  cases s.memRead s.wires.srcOff s.lcfg.bpp with
  | none => rfl
  | some bs =>
    cases a with
    | error => rfl
    | ok =>
      have hconv : ∀ op, CommutesAt (·.setSrc m) (exec (cvtInstr op)) (s.setWires { s.wires with bytes := bs }) := by
        intro op
        simp only [CommutesAt, exec_cvtInstr]
        exact runConverter_commutesAt_setSrc m _ _
      exact (hconv s.lcfg.op).andThen fun t _ => writePixel_commutesAt_setSrc m t

theorem pixelStep_commutesAt_setSrc (a : Answer) (hagree : CaptureAgrees s m) :
    CommutesAt (·.setSrc m) (pixelStep a) s := by
  obtain ⟨k, hk⟩ := exec_xformInstr s.lcfg.q s.lcfg.fh s.lcfg.fv
  have hmap : CommutesAt (·.setSrc m) (exec s.xformInstr) s := by
    unfold CommutesAt
    simp only [State.xformInstr, hk]
    exact runMapper_commutesAt_setSrc m s _
  refine hmap.andThen (g := readPixel a) fun t ht => ?_
  obtain ⟨hdom, rfl⟩ := runMapper_eq_next.mp ((hk s).symm.trans ht)
  obtain ⟨hcol, hrow⟩ := classPos_lt hdom
  exact readPixel_commutesAt_setSrc a hagree hcol hrow rfl

/-- R41: a sequencer turn does the same with any contents of SRC that agree on the captured pixels. -/
theorem sequencerTurn_commutesAt_setSrc (answer : Option Answer) (hagree : CaptureAgrees s m) :
    CommutesAt (·.setSrc m) (sequencerTurn answer) s := by
  unfold CommutesAt sequencerTurn phaseStep
  rw [State.setSrc_phase]
  cases hphase : s.phase <;> cases answer
  case pixel.some a => exact pixelStep_commutesAt_setSrc a hagree
  case rowemit.some a => exact rowemitStep_commutesAt_setSrc m s a
  case header.some a => cases a <;> rfl
  case final.some a => cases a <;> rfl
  all_goals rfl

end

end Sys2Proof.Machine
end

section
open Sys2Proof Sys2Proof.Machine Sys2Proof.Claims

/-! ### The windows during a run -/

/-- Settles O54: the bytes a turn changes are those of the pixel a PIXEL step stores, which lies in the raster. -/
theorem onlyPixelStepsWriteOut : Obligations.OnlyPixelStepsWriteOut := by
  intro s t turn rest a hinv hturns hstep hreset hne
  obtain ⟨-, -, -, hseq, hrun, -⟩ := hinv
  obtain ⟨hturn, hphase, hlt⟩ := (step_effect hturns hstep).outByte_changed hreset hne
  have hpixel : s.phase = .pixel := hphase
  obtain ⟨hj, hi⟩ := (seqOk_iff_of_pixel hpixel).mp hseq
  obtain ⟨hlegal, -⟩ := hrun (by simp [hpixel])
  exact ⟨hturn, hpixel, lt_of_lt_of_le hlt (State.outOffset_add_nch_le hlegal hj hi)⟩

/-- Settles O57: only a PIXEL step reads SRC, and only the pixel the mapper named, which its domain keeps in the
capture: the invariant is not needed. -/
theorem paddingNeverReachesTheOutput : Obligations.PaddingNeverReachesTheOutput :=
  fun _ _ answer _ hagree => sequencerTurn_commutesAt_setSrc answer hagree

/-! ### Host accesses without a move -/

/-- Settles O8: a misaligned selector decodes to no instruction. -/
theorem misalignedAccessHasNoMove : Obligations.MisalignedAccessHasNoMove := by
  intro s sel d rest hturns hmis
  rw [step_of_turns hturns]
  simp only [runTurn, busTurn, decodeBus_of_misaligned d hmis]

/-- Settles O44: both window turns look at BUSY first. -/
theorem windowsBelongToTheRun : Obligations.WindowsBelongToTheRun := by
  intro s rest hbusy
  exact ⟨fun off bytes hturns => (step_of_turns hturns).trans (loadSrcTurn_of_busy off bytes hbusy),
    fun off n hturns => (step_of_turns hturns).trans (rdOutTurn_of_busy off n hbusy)⟩

end

section
/-! SUPPORT. The statements of 30_encoding.md: each decoder inverted once (R69, R70, R71), each instruction's word
tied to the fields its decoder reads, and what a START latches. -/

namespace Sys2Proof
open Sys2Proof.Claims

/-- A selector is its top bit, the write bit of R69 or the ALPHA_REQ of R70, before the field below it. -/
theorem ofBool_append_extractLsb' {n : Nat} (x : BitVec (1 + n)) :
    BitVec.ofBool (x.getLsbD n) ++ x.extractLsb' 0 n = x := by
  ext k hk
  rw [BitVec.getElem_append]
  split
  · simp [BitVec.getLsbD_eq_getElem hk]
  · obtain rfl : k = n := by omega
    simp

/-- A decoder that takes a word under a condition gives an instruction exactly then, and that one. -/
theorem ite_ok_error_eq_ok {p : Prop} [Decidable p] {i j : Instr} {e : DecodeError} :
    (if p then Except.ok j else .error e) = .ok i ↔ p ∧ i = j := by
  by_cases hp : p
  · simp [hp, eq_comm]
  · simp [hp]

/-! ### Register accesses (R69) -/

theorem decodeBus_eq_ok {sel : BitVec 9} {d : Word} {i : Instr} :
    decodeBus sel d = .ok i ↔ AlignedOffset (sel.extractLsb' 0 8) ∧
      i = if sel.getLsbD 8 then decodeWrite (sel.extractLsb' 0 8) d else decodeRead (sel.extractLsb' 0 8) :=
  ite_ok_error_eq_ok

theorem encode_decodeRead (off : BitVec 8) : encode (decodeRead off) = encodeRead off := by
  unfold decodeRead
  split <;> rfl

theorem encode_decodeWrite (off : BitVec 8) (d : Word) : encode (decodeWrite off d) = encodeWrite off d := by
  unfold decodeWrite
  split <;> rfl

/-- R16, R27: the offsets of the ten registers. -/
def registerOffsets : List (BitVec 8) :=
  [0x00#8, 0x04#8, 0x08#8, 0x0C#8, 0x10#8, 0x14#8, 0x18#8, 0x1C#8, 0x20#8, 0x24#8]

theorem wellFormed_rdUnmapped {off : BitVec 8} :
    WellFormed (.rdUnmapped off) ↔ AlignedOffset off ∧ UnmappedOffset off := by
  simp [WellFormed, Instr.wf]

theorem wellFormed_wrUnmapped {off : BitVec 8} {d : Word} :
    WellFormed (.wrUnmapped off d) ↔ AlignedOffset off ∧ UnmappedOffset off := by
  simp [WellFormed, Instr.wf]

theorem mem_registerOffsets_or_unmapped :
    ∀ off : BitVec 8, AlignedOffset off → off ∈ registerOffsets ∨ UnmappedOffset off := by
  decide

theorem wellFormed_decodeRead {off : BitVec 8} (ha : AlignedOffset off) : WellFormed (decodeRead off) := by
  rcases mem_registerOffsets_or_unmapped off ha with hreg | hun
  · have hrows : ∀ o ∈ registerOffsets, WellFormed (decodeRead o) := by decide
    exact hrows off hreg
  · rw [Machine.decodeRead_of_unmapped hun]
    exact wellFormed_rdUnmapped.mpr ⟨ha, hun⟩

theorem wellFormed_decodeWrite {off : BitVec 8} (d : Word) (ha : AlignedOffset off) :
    WellFormed (decodeWrite off d) := by
  rcases mem_registerOffsets_or_unmapped off ha with hreg | hun
  · have hrows : ∀ o ∈ registerOffsets, WellFormed (decodeWrite o d) := by
      simp only [registerOffsets, List.forall_mem_cons]
      exact ⟨rfl, rfl, rfl, rfl, rfl, rfl, rfl, rfl, rfl, rfl, List.forall_mem_nil _⟩
    exact hrows off hreg
  · rw [Machine.decodeWrite_of_unmapped hun]
    exact wellFormed_wrUnmapped.mpr ⟨ha, hun⟩

theorem decode_encodeRead (policy : ReservedPolicy) {off : BitVec 8} (ha : AlignedOffset off) :
    decode policy (encodeRead off) = .ok (decodeRead off) :=
  Machine.decodeBus_append 0#1 0#32 ha

theorem decode_encodeWrite (policy : ReservedPolicy) {off : BitVec 8} (d : Word) (ha : AlignedOffset off) :
    decode policy (encodeWrite off d) = .ok (decodeWrite off d) :=
  Machine.decodeBus_append 1#1 d ha

/-! ### Conversions (R57, R70) -/

theorem formatOfCode_eq_some {f : Word} {fmt : PixelFormat} : formatOfCode f = some fmt ↔ f = formatCode fmt := by
  constructor
  · unfold formatOfCode
    intro h
    split at h <;> cases h <;> rfl
  · rintro rfl
    cases fmt <;> rfl

theorem exists_eq_formatCode {f : Word} : (∃ fmt, f = formatCode fmt) ↔ f.toNat ≤ 3 := by
  constructor
  · rintro ⟨fmt, rfl⟩
    cases fmt <;> decide
  · intro hle
    have hf : f = BitVec.ofNat 32 f.toNat := ((BitVec.ofNat_toNat 32 f).trans f.setWidth_eq).symm
    interval_cases f.toNat
    · exact ⟨.rgb565, hf⟩
    · exact ⟨.rgba4444, hf⟩
    · exact ⟨.rgb888, hf⟩
    · exact ⟨.rgba8888, hf⟩

/-- R70: the row of a format under an ALPHA_REQ. -/
def cvtRow (fmt : PixelFormat) (alphaReq : Bool) : Instr :=
  match fmt, alphaReq with
  | .rgb565, a => .cvtRgb565 a
  | .rgba4444, true => .cvtRgba4444Rgba
  | .rgba4444, false => .cvtRgba4444Rgb
  | .rgb888, a => .cvtRgb888 a
  | .rgba8888, true => .cvtRgba8888Rgba
  | .rgba8888, false => .cvtRgba8888Rgb

theorem decodeCvt_of_format {sel : BitVec 33} {fmt : PixelFormat}
    (h : formatOfCode (sel.extractLsb' 0 32) = some fmt) : decodeCvt sel = .ok (cvtRow fmt (sel.getLsbD 32)) := by
  simp only [decodeCvt, h]
  cases fmt <;> cases sel.getLsbD 32 <;> rfl

theorem decodeCvt_eq_ok {sel : BitVec 33} {i : Instr} :
    decodeCvt sel = .ok i ↔ ∃ fmt, sel.extractLsb' 0 32 = formatCode fmt ∧ i = cvtRow fmt (sel.getLsbD 32) := by
  simp only [← formatOfCode_eq_some]
  constructor
  · intro h
    cases hf : formatOfCode (sel.extractLsb' 0 32) with
    | none => simp [decodeCvt, hf] at h
    | some fmt => exact ⟨fmt, rfl, Except.ok.inj (h.symm.trans (decodeCvt_of_format hf))⟩
  · rintro ⟨fmt, hf, rfl⟩
    exact decodeCvt_of_format hf

theorem decodeCvt_append (a : Bool) {f : Word} {fmt : PixelFormat} (h : formatOfCode f = some fmt) :
    decodeCvt (BitVec.ofBool a ++ f) = .ok (cvtRow fmt a) := by
  have ha : (BitVec.ofBool a ++ f).getLsbD 32 = a := by
    rw [BitVec.getLsbD_append]
    simp
  have hf : (BitVec.ofBool a ++ f).extractLsb' 0 32 = f := BitVec.extractLsb'_append_eq_right
  exact (decodeCvt_of_format (hf.symm ▸ h)).trans (by rw [ha])

theorem encode_cvtRow (fmt : PixelFormat) (a : Bool) : encode (cvtRow fmt a) = encodeCvt a (formatCode fmt) := by
  cases fmt <;> cases a <;> rfl

theorem wellFormed_cvtRow (fmt : PixelFormat) (a : Bool) : WellFormed (cvtRow fmt a) := by
  cases fmt <;> cases a <;> rfl

theorem decode_encode_cvtRow (policy : ReservedPolicy) (fmt : PixelFormat) (a : Bool) :
    decode policy (encode (cvtRow fmt a)) = .ok (cvtRow fmt a) := by
  rw [encode_cvtRow]
  exact decodeCvt_append a (formatOfCode_eq_some.mpr rfl)

/-! ### Transform codes (R58, R59, R71) -/

/-- R58: the TRANSFORM word of these fields, its reserved bits 0. -/
def xformWord (q : Fin 4) (fh fv : Bool) : Word :=
  0#14 ++ BitVec.ofBool fv ++ BitVec.ofBool fh ++ 0#14 ++ BitVec.ofFin (w := 2) q

theorem encode_xformInstr (q : Fin 4) (fh fv : Bool) : encode (xformInstr q fh fv) = .xform (xformWord q fh fv) := by
  fin_cases q <;> cases fh <;> cases fv <;> rfl

theorem wellFormed_xformInstr (q : Fin 4) (fh fv : Bool) : WellFormed (xformInstr q fh fv) := by
  fin_cases q <;> cases fh <;> cases fv <;> rfl

theorem decodeXform_eq_ok {policy : ReservedPolicy} {t : Word} {i : Instr} :
    decodeXform policy t = .ok i ↔
      (policy = .reject → reservedOf t = 0#32) ∧ i = xformInstr (quadrantOf t) (flipHOf t) (flipVOf t) := by
  rw [decodeXform, ← ite_not, ite_ok_error_eq_ok, not_and_not_right]

theorem fields_xformWord : ∀ (q : Fin 4) (fh fv : Bool),
    reservedOf (xformWord q fh fv) = 0#32 ∧ quadrantOf (xformWord q fh fv) = q ∧
      flipHOf (xformWord q fh fv) = fh ∧ flipVOf (xformWord q fh fv) = fv := by
  decide

theorem ofFin_quadrantOf (t : Word) : BitVec.ofFin (w := 2) (quadrantOf t) = t.extractLsb' 0 2 := by
  apply BitVec.eq_of_toNat_eq
  simp [quadrantOf]

/-- R71: the word of the fields read from a word is that word without its reserved bits. -/
theorem xformWord_fields (t : Word) : xformWord (quadrantOf t) (flipHOf t) (flipVOf t) = t &&& 0x00030003#32 := by
  rw [xformWord, ofFin_quadrantOf]
  refine BitVec.eq_of_getLsbD_eq fun k hk => ?_
  simp only [BitVec.getLsbD_append, BitVec.getLsbD_and, BitVec.getLsbD_extractLsb', BitVec.getLsbD_ofBool, flipHOf,
    flipVOf]
  interval_cases k <;> simp

theorem and_fields_eq_self {t : Word} (h : reservedOf t = 0#32) : t &&& 0x00030003#32 = t :=
  calc t &&& 0x00030003#32 = (t &&& 0x00030003#32) ||| reservedOf t := by rw [h, BitVec.or_zero]
    _ = t &&& (0x00030003#32 ||| 0xFFFCFFFC#32) := by rw [reservedOf, BitVec.and_or_distrib_left]
    _ = t := BitVec.and_allOnes

theorem decode_encode_xformInstr (policy : ReservedPolicy) (q : Fin 4) (fh fv : Bool) :
    decode policy (encode (xformInstr q fh fv)) = .ok (xformInstr q fh fv) := by
  obtain ⟨hres, hq, hh, hv⟩ := fields_xformWord q fh fv
  rw [encode_xformInstr]
  exact decodeXform_eq_ok.mpr ⟨fun _ => hres, by rw [hq, hh, hv]⟩

end Sys2Proof
end

section
namespace Sys2Proof.Machine

/-! ### START (R124, R126) -/

/-- R70, R84, R87: a conversion row means the latched operation, whatever the bit two rows leave free. -/
theorem exec_cvtRow (fmt : PixelFormat) (a : Bool) (u : State) :
    exec (cvtRow fmt a) u = exec (cvtInstr (cvtOpOf fmt a)) u := by
  cases fmt <;> cases a <;> rfl

/-- A CTRL write that takes the block from idle to a run latched the configuration its registers name. -/
theorem writeCtrl_begins {s : State} {d : Word} (hidle : s.status.busy = false)
    (hrun : (s.writeCtrl d).status.busy = true) :
    ∃ fmt, formatOfCode s.regs.format = some fmt ∧ ¬ BadTransform s.cfg s.regs ∧
      (s.writeCtrl d).lcfg = latchConfig fmt { s.regs with alphaReq := d.getLsbD 1 } := by
  rcases s.writeCtrl_cases d with ⟨heq, -⟩ | ⟨heq, -, -⟩ <;> rw [heq] at hrun ⊢
  · simp [hidle] at hrun
  · rcases State.start_cases (s.setRegs { s.regs with alphaReq := d.getLsbD 1 }) with
      ⟨e, -, -, hstart⟩ | ⟨fmt, hfmt, hcheck, hstart⟩ <;> rw [hstart] at hrun ⊢
    · simp at hrun
    · obtain ⟨-, -, htransform, -⟩ := checkConfig_eq_noError hcheck
      exact ⟨fmt, hfmt, htransform, by simp⟩

end Sys2Proof.Machine
end

section
open Sys2Proof Sys2Proof.Machine Sys2Proof.Claims

/-! ### The decoders -/

/-- Settles O1: one case per row; the rows of one table share the fact that their decoder reads back the fields
their word is made of. -/
theorem decodeOfEncodeIsTheInstruction : Obligations.DecodeOfEncodeIsTheInstruction := by
  intro policy i hwf
  cases i with
  | rdCtrl | rdStatus | rdFormat | rdTransform | rdCapWidth | rdCapHeight | rdCapPitch | rdOutWidth | rdOutHeight
  | rdSinkParam => exact decode_encodeRead policy (by decide)
  | wrCtrl d | wrStatus d | wrFormat d | wrTransform d | wrCapWidth d | wrCapHeight d | wrCapPitch d | wrOutWidth d
  | wrOutHeight d | wrSinkParam d => exact decode_encodeWrite policy d (by decide)
  | rdUnmapped off =>
    obtain ⟨ha, hun⟩ := wellFormed_rdUnmapped.mp hwf
    exact (decode_encodeRead policy ha).trans (by rw [decodeRead_of_unmapped hun])
  | wrUnmapped off d =>
    obtain ⟨ha, hun⟩ := wellFormed_wrUnmapped.mp hwf
    exact (decode_encodeWrite policy d ha).trans (by rw [decodeWrite_of_unmapped hun])
  | cvtRgb565 a => exact decode_encode_cvtRow policy .rgb565 a
  | cvtRgba4444Rgba => exact decode_encode_cvtRow policy .rgba4444 true
  | cvtRgba4444Rgb => exact decode_encode_cvtRow policy .rgba4444 false
  | cvtRgb888 a => exact decode_encode_cvtRow policy .rgb888 a
  | cvtRgba8888Rgba => exact decode_encode_cvtRow policy .rgba8888 true
  | cvtRgba8888Rgb => exact decode_encode_cvtRow policy .rgba8888 false
  | xfQ0 => exact decode_encode_xformInstr policy 0 false false
  | xfQ0H => exact decode_encode_xformInstr policy 0 true false
  | xfQ0V => exact decode_encode_xformInstr policy 0 false true
  | xfQ0Hv => exact decode_encode_xformInstr policy 0 true true
  | xfQ1 => exact decode_encode_xformInstr policy 1 false false
  | xfQ1H => exact decode_encode_xformInstr policy 1 true false
  | xfQ1V => exact decode_encode_xformInstr policy 1 false true
  | xfQ1Hv => exact decode_encode_xformInstr policy 1 true true
  | xfQ2 => exact decode_encode_xformInstr policy 2 false false
  | xfQ2H => exact decode_encode_xformInstr policy 2 true false
  | xfQ2V => exact decode_encode_xformInstr policy 2 false true
  | xfQ2Hv => exact decode_encode_xformInstr policy 2 true true
  | xfQ3 => exact decode_encode_xformInstr policy 3 false false
  | xfQ3H => exact decode_encode_xformInstr policy 3 true false
  | xfQ3V => exact decode_encode_xformInstr policy 3 false true
  | xfQ3Hv => exact decode_encode_xformInstr policy 3 true true

/-- Settles O2: each decoder's inversion names the row, and the row's word is built from the fields read; under
`REJECT` the reserved bits are 0, so that masking them changes nothing. -/
theorem encodeOfDecodeIsTheWord : Obligations.EncodeOfDecodeIsTheWord := by
  refine ⟨fun sel d i h => ?_, fun sel i h => ?_, fun t i h => ?_, fun t i h => ?_⟩
  · obtain ⟨ha, rfl⟩ := decodeBus_eq_ok.mp h
    have hsel := ofBool_append_extractLsb' (n := 8) sel
    cases hw : sel.getLsbD 8 with
    | false =>
      rw [hw] at hsel
      exact ⟨wellFormed_decodeRead ha, (encode_decodeRead _).trans (congrArg (Selector.bus · 0#32) hsel)⟩
    | true =>
      rw [hw] at hsel
      exact ⟨wellFormed_decodeWrite d ha, (encode_decodeWrite _ d).trans (congrArg (Selector.bus · d) hsel)⟩
  · obtain ⟨fmt, hf, rfl⟩ := decodeCvt_eq_ok.mp h
    refine ⟨wellFormed_cvtRow _ _, ?_⟩
    rw [encode_cvtRow, encodeCvt, ← hf]
    exact congrArg Selector.cvt (ofBool_append_extractLsb' (n := 32) sel)
  · obtain ⟨hres, rfl⟩ := decodeXform_eq_ok.mp h
    refine ⟨wellFormed_xformInstr _ _ _, ?_⟩
    rw [encode_xformInstr, xformWord_fields, and_fields_eq_self (hres rfl)]
  · obtain ⟨-, rfl⟩ := decodeXform_eq_ok.mp h
    refine ⟨wellFormed_xformInstr _ _ _, ?_⟩
    rw [encode_xformInstr, xformWord_fields]

/-- Settles O3: the condition each decoder's inversion asks of its word, in numbers. -/
theorem decodersRefuseExactlyTheIllegalWords : Obligations.DecodersRefuseExactlyTheIllegalWords := by
  refine ⟨fun sel d => ?_, fun sel => ?_, fun t => ?_, fun t => ?_⟩
  · simp only [decodeBus_eq_ok, exists_and_left, exists_eq, and_true]
    exact alignedOffset_extractLsb'_iff sel
  · calc (∃ i, decodeCvt sel = .ok i) ↔ ∃ fmt, sel.extractLsb' 0 32 = formatCode fmt := by
          simp only [decodeCvt_eq_ok, exists_comm (α := Instr), exists_and_left, exists_eq, and_true]
      _ ↔ (sel.extractLsb' 0 32).toNat ≤ 3 := exists_eq_formatCode
      _ ↔ sel.toNat % 2 ^ 32 ≤ 3 := by rw [BitVec.extractLsb'_toNat, Nat.shiftRight_zero]
  · simp only [decodeXform_eq_ok, exists_and_left, exists_eq, and_true, true_imp_iff]
    exact Iff.rfl
  · exact ⟨_, decodeXform_eq_ok.mpr ⟨fun h => (nomatch h), rfl⟩⟩

/-- Settles O4: each word evaluated by its decoder. -/
theorem sampleWordsDecodeAsTheSpecSays : Obligations.SampleWordsDecodeAsTheSpecSays :=
  ⟨rfl, rfl, rfl, rfl, rfl, rfl, rfl, rfl, rfl⟩

/-! ### What a step runs -/

/-- Settles O5: a register turn decodes its selector and runs the instruction. -/
theorem stepRunsTheDecodedAccess : Obligations.StepRunsTheDecodedAccess :=
  fun _ _ _ _ _ hturns hdecode => step_bus hturns hdecode

/-- Settles O7: the latched fields are those of the registers, and the check has excluded the words the two decoders
refuse. -/
theorem startLatchesTheDecodedSelectors : Obligations.StartLatchesTheDecodedSelectors := by
  intro s t d hidle _ hexec hrun
  obtain rfl : s.writeCtrl d = t := Host.Outcome.next.inj hexec
  obtain ⟨fmt, hfmt, htransform, hlcfg⟩ := writeCtrl_begins hidle hrun
  refine ⟨decodeXform_eq_ok.mpr ⟨not_and_not_right.mp htransform, ?_⟩, cvtRow fmt (d.getLsbD 1),
    decodeCvt_append _ hfmt, fun u => ?_⟩
  · rw [State.xformInstr, hlcfg]
    rfl
  · rw [State.cvtInstr, hlcfg]
    exact exec_cvtRow fmt _ u

/-! ### The host's windows between runs -/

/-- Settles O42: the turn writes the bytes from the offset on, and every read of SRC follows from what a write of
bytes leaves. -/
theorem loadSrcStoresTheBytes : Obligations.LoadSrcStoresTheBytes := by
  intro s off bytes rest hturns hidle hin
  have hstep : step s = .next ((s.setTurns rest).setSrc (s.src.writeBytes off bytes)) :=
    (step_of_turns hturns).trans (loadSrcTurn_eq_next.mpr ⟨hidle, hin, rfl⟩)
  refine ⟨_, hstep, rfl, fun k hk => ?_, fun a ha => ?_⟩
  · rw [State.setSrc_src, Memory.read?_writeBytes, if_pos (by omega), Nat.add_sub_cancel_left]
  · rw [State.srcByte, State.setSrc_src, Memory.read?_writeBytes, if_neg (by omega), State.srcByte]

/-- Settles O43: outside a run an `RDOUT` inside the window replies with the range asked for. -/
theorem rdOutReturnsTheBytes : Obligations.RdOutReturnsTheBytes := by
  intro s off n rest hturns hidle hin
  exact (step_of_turns hturns).trans (rdOutTurn_eq_next.mpr ⟨hidle, hin, rfl⟩)

end

section
/-! SUPPORT. The conversions in plain arithmetic: channel expansion (R77 to R82), the fields of a 16-bit pixel word
(R44, R63, R64), and what each conversion gives (R84 to R89). -/

namespace Sys2Proof.Machine
open Sys2Proof.Claims

/-! ### Channel expansion (R77 to R81) -/

section Expansion
variable {n v w : Nat}

/-- The bits R77 repeats below a channel value fill exactly the gap its shift leaves. -/
theorem replicated_lt (hn : n ≤ 8) (hlow : 4 ≤ n) (hv : v < 2 ^ n) : v / 2 ^ (2 * n - 8) < 2 ^ (8 - n) := by
  refine Nat.div_lt_of_lt_mul ?_
  rwa [← pow_add, show 2 * n - 8 + (8 - n) = n by omega]

/-- R77: the two shifted parts share no bit, so their `|` is a sum. -/
theorem expandN_eq_ofNat (hn : n ≤ 8) (hlow : 4 ≤ n) (hv : v < 2 ^ n) :
    expandN n v = BitVec.ofNat 8 (v * 2 ^ (8 - n) + v / 2 ^ (2 * n - 8)) := by
  rw [expandN, Nat.shiftRight_eq_div_pow, ← Nat.shiftLeft_add_eq_or_of_lt (replicated_lt hn hlow hv),
    Nat.shiftLeft_eq]

theorem toNat_expandN (hn : n ≤ 8) (hlow : 4 ≤ n) (hv : v < 2 ^ n) :
    (expandN n v).toNat = v * 2 ^ (8 - n) + v / 2 ^ (2 * n - 8) := by
  rw [expandN_eq_ofNat hn hlow hv, BitVec.toNat_ofNat]
  refine Nat.mod_eq_of_lt ?_
  calc v * 2 ^ (8 - n) + v / 2 ^ (2 * n - 8) < v * 2 ^ (8 - n) + 2 ^ (8 - n) :=
        Nat.add_lt_add_left (replicated_lt hn hlow hv) _
    _ = (v + 1) * 2 ^ (8 - n) := (Nat.succ_mul _ _).symm
    _ ≤ 2 ^ n * 2 ^ (8 - n) := Nat.mul_le_mul_right _ hv
    _ = 2 ^ 8 := by rw [← pow_add, Nat.add_sub_cancel' hn]

/-- R82 (b). -/
theorem expandN_lt_expandN (hn : n ≤ 8) (hlow : 4 ≤ n) (hvw : v < w) (hw : w < 2 ^ n) :
    (expandN n v).toNat < (expandN n w).toNat := by
  rw [toNat_expandN hn hlow (hvw.trans hw), toNat_expandN hn hlow hw]
  exact Nat.add_lt_add_of_lt_of_le (Nat.mul_lt_mul_of_pos_right hvw (Nat.two_pow_pos _))
    (Nat.div_le_div_right hvw.le)

/-- R82 (c). -/
theorem expandN_div (hn : n ≤ 8) (hlow : 4 ≤ n) (hv : v < 2 ^ n) : (expandN n v).toNat / 2 ^ (8 - n) = v := by
  rw [toNat_expandN hn hlow hv, Nat.add_comm, Nat.add_mul_div_right _ _ (Nat.two_pow_pos _),
    Nat.div_eq_of_lt (replicated_lt hn hlow hv), Nat.zero_add]

/-- R78. -/
theorem expand4_eq (v : BitVec 4) : expand4 v = BitVec.ofNat 8 (17 * v.toNat) := by
  rw [expand4, expandN_eq_ofNat (by decide) (by decide) v.isLt]
  exact congrArg (BitVec.ofNat 8) (by omega)

/-- R79. -/
theorem expand5_eq_five (v : BitVec 5) : expand5 v = five v.toNat := by
  rw [expand5, expandN_eq_ofNat (by decide) (by decide) v.isLt, five, Nat.mul_comm]
  rfl

/-- R80. -/
theorem expand6_eq_six (v : BitVec 6) : expand6 v = six v.toNat := by
  rw [expand6, expandN_eq_ofNat (by decide) (by decide) v.isLt, six, Nat.mul_comm]
  rfl

/-- R81: an 8-bit channel is copied. -/
theorem expand8_eq (v : BitVec 8) : expand8 v = v := by
  refine BitVec.eq_of_toNat_eq ?_
  rw [expand8, toNat_expandN le_rfl (by decide) v.isLt]
  omega

/-! ### The truncating rescale (R82 (d)) -/

/-- The rescale of the source's historical variants, which R82 (d) compares the expansion with. -/
def truncatingRescale (n v : Nat) : Nat := v * 255 / (2 ^ n - 1)

theorem expandN_eq_rescale (hn : n = 4 ∨ n = 8) (hv : v < 2 ^ n) :
    (expandN n v).toNat = truncatingRescale n v := by
  rcases hn with rfl | rfl
  all_goals
    rw [toNat_expandN (by decide) (by decide) hv, truncatingRescale]
    omega

theorem expandN_near_rescale (hn : n = 5 ∨ n = 6) (hv : v < 2 ^ n) :
    (expandN n v).toNat = truncatingRescale n v ∨ (expandN n v).toNat = truncatingRescale n v + 1 := by
  rcases hn with rfl | rfl
  all_goals
    rw [toNat_expandN (by decide) (by decide) hv, truncatingRescale]
    omega

/-- The values whose expansion exceeds the rescale by 1. -/
def valuesAboveRescale (n : Nat) : List Nat :=
  (List.range (2 ^ n)).filter fun v => (expandN n v).toNat = truncatingRescale n v + 1

theorem valuesAboveRescale_eq_nil (hn : n = 4 ∨ n = 8) : valuesAboveRescale n = [] := by
  refine List.filter_eq_nil_iff.mpr fun v hv => ?_
  simp [expandN_eq_rescale hn (List.mem_range.mp hv)]

end Expansion

/-! ### The fields of a 16-bit pixel word (R44, R63, R64) -/

theorem toNat_pix16 (order : ByteOrder) (b0 b1 : Byte) : (pix16 order b0 b1).toNat = word16 order b0 b1 := by
  have happend (hi lo : Byte) : (hi ++ lo).toNat = lo.toNat + 256 * hi.toNat := by
    rw [BitVec.toNat_append, ← Nat.shiftLeft_add_eq_or_of_lt lo.isLt, Nat.shiftLeft_eq, Nat.add_comm, Nat.mul_comm]
  cases order
  · exact happend b1 b0
  · exact happend b0 b1

theorem toNat_nibble (w : BitVec 16) (p : Fin 4) : (nibble w p).toNat = w.toNat / 16 ^ p.val % 16 := by
  rw [nibble, BitVec.extractLsb'_toNat, Nat.shiftRight_eq_div_pow, pow_mul]
  rfl

/-- R63, R79, R80. -/
theorem rgb565Pixel_eq (w : BitVec 16) :
    rgb565Pixel w = [five (w.toNat / 2048), six (w.toNat / 32 % 64), five (w.toNat % 32)] := by
  have hred : (w.extractLsb' 11 5).toNat = w.toNat / 2048 := by
    rw [BitVec.extractLsb'_toNat, Nat.shiftRight_eq_div_pow]
    exact Nat.mod_eq_of_lt (by omega)
  have hgreen : (w.extractLsb' 5 6).toNat = w.toNat / 32 % 64 := by
    rw [BitVec.extractLsb'_toNat, Nat.shiftRight_eq_div_pow]
  have hblue : (w.extractLsb' 0 5).toNat = w.toNat % 32 := by
    rw [BitVec.extractLsb'_toNat, Nat.shiftRight_zero]
  rw [rgb565Pixel, expand5_eq_five, expand6_eq_six, expand5_eq_five, hred, hgreen, hblue]

/-- R64, R78. -/
theorem rgba4444Pixel_eq (l : NibbleLayout) (w : BitVec 16) :
    rgba4444Pixel l w =
      [nibbleTimes17 w.toNat l.r, nibbleTimes17 w.toNat l.g, nibbleTimes17 w.toNat l.b, nibbleTimes17 w.toNat l.a] := by
  simp only [rgba4444Pixel, expand4_eq, toNat_nibble, nibbleTimes17]

/-! ### The conversions (R84 to R89) -/

theorem convert_rgb565 (p : Params) (b0 b1 : Byte) :
    convert p .rgb565 [b0, b1] = some [five (word16 p.pix16ByteOrder b0 b1 / 2048),
      six (word16 p.pix16ByteOrder b0 b1 / 32 % 64), five (word16 p.pix16ByteOrder b0 b1 % 32)] := by
  rw [convert, convertRgb565, rgb565Pixel_eq, toNat_pix16]

theorem convert_rgba4444Rgba (p : Params) (b0 b1 : Byte) :
    convert p .rgba4444Rgba [b0, b1] = some
      [nibbleTimes17 (word16 p.pix16ByteOrder b0 b1) p.rgba4444Layout.r,
        nibbleTimes17 (word16 p.pix16ByteOrder b0 b1) p.rgba4444Layout.g,
        nibbleTimes17 (word16 p.pix16ByteOrder b0 b1) p.rgba4444Layout.b,
        nibbleTimes17 (word16 p.pix16ByteOrder b0 b1) p.rgba4444Layout.a] := by
  rw [convert, convertRgba4444Rgba, rgba4444Pixel_eq, toNat_pix16]

/-- R86: the conversion with alpha, its alpha channel dropped. -/
theorem convert_rgba4444Rgb (p : Params) (bytes : List Byte) :
    convert p .rgba4444Rgb bytes = (convert p .rgba4444Rgba bytes).map (List.take 3) := rfl

theorem convert_rgb888 (p : Params) (b0 b1 b2 : Byte) : convert p .rgb888 [b0, b1, b2] = some [b0, b1, b2] := by
  simp only [convert, convertRgb888, expand8_eq]

theorem convert_rgba8888Rgba (p : Params) (b0 b1 b2 b3 : Byte) :
    convert p .rgba8888Rgba [b0, b1, b2, b3] = some [b0, b1, b2, b3] := by
  simp only [convert, convertRgba8888Rgba, expand8_eq]

theorem convert_rgba8888Rgb (p : Params) (b0 b1 b2 b3 : Byte) :
    convert p .rgba8888Rgb [b0, b1, b2, b3] = some [b0, b1, b2] := by
  simp only [convert, convertRgba8888Rgb, expand8_eq]

/-- R76: a conversion row that converts its operand changes nothing but the pixel on the wires. -/
theorem exec_cvtRow_of_convert {fmt : PixelFormat} {a : Bool} {s : State} {bytes px : List Byte}
    (hbytes : s.wires.bytes = bytes) (hpx : convert s.cfg (cvtOpOf fmt a) bytes = some px) :
    exec (cvtRow fmt a) s = .next (converted s px) := by
  rw [exec_cvtRow, exec_cvtInstr]
  exact runConverter_eq_next.mpr ⟨px, hbytes ▸ hpx, rfl⟩

end Sys2Proof.Machine
end

section
open Sys2Proof Sys2Proof.Machine Sys2Proof.Claims

/-! ### The pixel conversions -/

/-- Settles O32: the conversion of the RGB565 row, whatever its alpha bit. -/
theorem rgb565ExpandsByReplication : Obligations.Rgb565ExpandsByReplication :=
  fun s a b0 b1 hbytes => exec_cvtRow_of_convert (fmt := .rgb565) (a := a) hbytes (convert_rgb565 s.cfg b0 b1)

/-- Settles O33: without the alpha request the conversion is the one with it, cut to three channels. -/
theorem rgba4444ReplicatesItsNibbles : Obligations.Rgba4444ReplicatesItsNibbles := by
  intro s b0 b1 hbytes
  have hpx := convert_rgba4444Rgba s.cfg b0 b1
  refine ⟨exec_cvtRow_of_convert (fmt := .rgba4444) (a := true) hbytes hpx,
    exec_cvtRow_of_convert (fmt := .rgba4444) (a := false) hbytes ?_⟩
  exact (convert_rgba4444Rgb _ _).trans (congrArg (Option.map (List.take 3)) hpx)

/-- Settles O34: each copy is the conversion of its row. -/
theorem eightBitFormatsAreCopied : Obligations.EightBitFormatsAreCopied := by
  intro s a b0 b1 b2 b3
  refine ⟨fun hbytes => ?_, fun hbytes => ⟨?_, ?_⟩⟩
  · exact exec_cvtRow_of_convert (fmt := .rgb888) (a := a) hbytes (convert_rgb888 s.cfg b0 b1 b2)
  · exact exec_cvtRow_of_convert (fmt := .rgba8888) (a := true) hbytes (convert_rgba8888Rgba s.cfg b0 b1 b2 b3)
  · exact exec_cvtRow_of_convert (fmt := .rgba8888) (a := false) hbytes (convert_rgba8888Rgb s.cfg b0 b1 b2 b3)

/-- Settles O35: order and reversibility hold for every width from 4 to 8; the distance from the rescale is linear
arithmetic at each width, and the values above it are counted at 5 and 6 bits. -/
theorem expansionIsReversibleAndNearTheRescale : Obligations.ExpansionIsReversibleAndNearTheRescale := by
  refine ⟨fun n hn => ?_, congrArg List.length (valuesAboveRescale_eq_nil (.inl rfl)), by decide, by decide,
    congrArg List.length (valuesAboveRescale_eq_nil (.inr rfl))⟩
  have hwidth : n ≤ 8 ∧ 4 ≤ n ∧ ((n = 4 ∨ n = 8) ∨ n = 5 ∨ n = 6) := by
    revert n
    decide
  have hends : (expandN n 0).toNat = 0 ∧ (expandN n (2 ^ n - 1)).toNat = 255 := by
    revert n
    decide
  obtain ⟨hle, hlow, hcase⟩ := hwidth
  obtain ⟨hzero, hones⟩ := hends
  refine ⟨hzero, hones, fun v w => expandN_lt_expandN hle hlow, fun v => expandN_div hle hlow, fun v hv => ?_⟩
  rcases hcase with hexact | hnear
  · exact .inl (expandN_eq_rescale hexact hv)
  · exact expandN_near_rescale hnear hv

end

section
/-! SUPPORT. The statements of 41_orientation_mapper.md: the class of R118 each transform code has, that the class is
the composition of R95 to R100, and that every class maps the output one-to-one onto the capture. -/

namespace Sys2Proof.Machine
open Sys2Proof.Claims

/-! ### The class of a transform code (R96 to R118) -/

/-- R96 to R99: the rotation of each quadrant, under `UNDO_CW`. -/
def quadrantClass (q : Fin 4) : MapClass :=
  match q with
  | 0 => .identity
  | 1 => .quarterCcw
  | 2 => .halfTurn
  | 3 => .quarterCw

/-- The mapping that first reverses the output columns. -/
def MapClass.flipColumns (k : MapClass) : MapClass :=
  match k with
  | .identity => .mirrorLeftRight
  | .mirrorLeftRight => .identity
  | .mirrorTopBottom => .halfTurn
  | .halfTurn => .mirrorTopBottom
  | .quarterCcw => .antiTranspose
  | .transpose => .quarterCw
  | .quarterCw => .transpose
  | .antiTranspose => .quarterCcw

/-- The mapping that first reverses the output rows. -/
def MapClass.flipRows (k : MapClass) : MapClass :=
  match k with
  | .identity => .mirrorTopBottom
  | .mirrorLeftRight => .halfTurn
  | .mirrorTopBottom => .identity
  | .halfTurn => .mirrorLeftRight
  | .quarterCcw => .transpose
  | .transpose => .quarterCcw
  | .quarterCw => .antiTranspose
  | .antiTranspose => .quarterCw

/-- The mapping that first takes the flips of R95. -/
def MapClass.afterFlips (fh fv : Bool) (k : MapClass) : MapClass :=
  let k' := if fv then k.flipRows else k
  if fh then k'.flipColumns else k'

/-- The class of R118 a code has under `UNDO_CW`. -/
def codeClass (q : Fin 4) (fh fv : Bool) : MapClass :=
  (quadrantClass q).afterFlips fh fv

/-- The closed form of each code's own rule is that of its class. -/
theorem exec_xformInstr_eq_runMapper (q : Fin 4) (fh fv : Bool) (s : State) :
    exec (Sys2Proof.xformInstr q fh fv) s = runMapper (senseClass s.cfg.rotSense (codeClass q fh fv)) s := by
  fin_cases q <;> cases fh <;> cases fv <;> rfl

@[simp] theorem classOdd_senseClass (sense : RotSense) (k : MapClass) : classOdd (senseClass sense k) = classOdd k := by
  cases sense <;> cases k <;> rfl

@[simp] theorem classOdd_flipColumns (k : MapClass) : classOdd k.flipColumns = classOdd k := by
  cases k <;> rfl

@[simp] theorem classOdd_flipRows (k : MapClass) : classOdd k.flipRows = classOdd k := by
  cases k <;> rfl

theorem classOdd_quadrantClass (q : Fin 4) : classOdd (quadrantClass q) = oddQuadrant q := by
  fin_cases q <;> rfl

@[simp] theorem classOdd_codeClass (q : Fin 4) (fh fv : Bool) : classOdd (codeClass q fh fv) = oddQuadrant q := by
  revert q fh fv
  decide

/-- R118: `ROT_SENSE` changes the classes of odd quadrants only. -/
theorem senseClass_of_even {k : MapClass} (sense : RotSense) (h : classOdd k = false) : senseClass sense k = k := by
  cases k with
  | identity | mirrorLeftRight | mirrorTopBottom | halfTurn => cases sense <;> rfl
  | quarterCcw | transpose | quarterCw | antiTranspose => nomatch h

theorem senseClass_involutive (sense : RotSense) : Function.Involutive (senseClass sense) := by
  intro k
  cases sense <;> cases k <;> rfl

theorem senseClass_flipColumns (sense : RotSense) (k : MapClass) :
    senseClass sense k.flipColumns = (senseClass sense k).flipColumns := by
  cases sense <;> cases k <;> rfl

theorem senseClass_flipRows (sense : RotSense) (k : MapClass) :
    senseClass sense k.flipRows = (senseClass sense k).flipRows := by
  cases sense <;> cases k <;> rfl

/-- R100: `ROT_SENSE` turns the rotation and leaves the flips before it. -/
theorem senseClass_codeClass (sense : RotSense) (q : Fin 4) (fh fv : Bool) :
    senseClass sense (codeClass q fh fv) = (senseClass sense (quadrantClass q)).afterFlips fh fv := by
  cases fh <;> cases fv <;>
    simp [codeClass, MapClass.afterFlips, senseClass_flipColumns, senseClass_flipRows]

/-! ### The class is the composition (R95 to R100) -/

section Composition
variable {k : MapClass} {c : RunConfig} {i j : Nat}

theorem classPos_flipColumns (h : MapDomain (classOdd k) c i j) :
    classPos k.flipColumns c i j = classPos k c (c.outW - 1 - i) j := by
  obtain ⟨hi, -, hdims⟩ := h
  cases k <;> simp only [classOdd, DimsAgree, if_true, Bool.false_eq_true, if_false] at hdims <;>
    simp only [classPos, MapClass.flipColumns, Prod.mk.injEq, true_and, and_true] <;> omega

theorem classPos_flipRows (h : MapDomain (classOdd k) c i j) :
    classPos k.flipRows c i j = classPos k c i (c.outH - 1 - j) := by
  obtain ⟨-, hj, hdims⟩ := h
  cases k <;> simp only [classOdd, DimsAgree, if_true, Bool.false_eq_true, if_false] at hdims <;>
    simp only [classPos, MapClass.flipRows, Prod.mk.injEq, true_and, and_true] <;> omega

/-- R95: a class after the flips is the class at the flipped pixel. -/
theorem classPos_afterFlips (h : MapDomain (classOdd k) c i j) :
    classPos (k.afterFlips c.fh c.fv) c i j = classPos k c (flipPos c i j).1 (flipPos c i j).2 := by
  have hcolumns : classPos (k.afterFlips c.fh c.fv) c i j =
      classPos (if c.fv then k.flipRows else k) c (flipPos c i j).1 j := by
    unfold MapClass.afterFlips flipPos
    cases c.fh
    · rfl
    · exact classPos_flipColumns (by cases c.fv <;> simpa using h)
  have hrows : MapDomain (classOdd k) c (flipPos c i j).1 j := by
    obtain ⟨hi, hj, hdims⟩ := h
    refine ⟨?_, hj, hdims⟩
    simp only [flipPos]
    split <;> omega
  rw [hcolumns]
  cases hfv : c.fv
  · simp [flipPos, hfv]
  · simpa [flipPos, hfv] using classPos_flipRows hrows

/-- R96 to R100: the rotation alone is the quadrant's class. -/
theorem rotatePos_eq_classPos (sense : RotSense) (c : RunConfig) (i j : Nat) :
    rotatePos sense c i j = classPos (senseClass sense (quadrantClass c.q)) c i j := by
  unfold rotatePos
  generalize c.q = q
  fin_cases q <;> cases sense <;> rfl

/-- R118: on an output pixel the composition of R95 to R100 is the class of the code. -/
theorem srcPos_eq_classPos (sense : RotSense) (h : MapDomain (oddQuadrant c.q) c i j) :
    srcPos sense c i j = classPos (senseClass sense (codeClass c.q c.fh c.fv)) c i j := by
  have hdomain : MapDomain (classOdd (senseClass sense (quadrantClass c.q))) c i j := by
    rwa [classOdd_senseClass, classOdd_quadrantClass]
  calc srcPos sense c i j
      = classPos (senseClass sense (quadrantClass c.q)) c (flipPos c i j).1 (flipPos c i j).2 :=
        rotatePos_eq_classPos sense c _ _
    _ = classPos ((senseClass sense (quadrantClass c.q)).afterFlips c.fh c.fv) c i j :=
        (classPos_afterFlips hdomain).symm
    _ = classPos (senseClass sense (codeClass c.q c.fh c.fv)) c i j := by rw [senseClass_codeClass]

theorem srcPos_oriented_eq_classPos (sense : RotSense) {q : Fin 4} (fh fv : Bool)
    (h : MapDomain (oddQuadrant q) c i j) :
    srcPos sense (oriented c q fh fv) i j = classPos (senseClass sense (codeClass q fh fv)) c i j :=
  srcPos_eq_classPos (c := oriented c q fh fv) sense h

/-- R119 (b). -/
theorem srcPos_lt (sense : RotSense) (h : MapDomain (oddQuadrant c.q) c i j) :
    (srcPos sense c i j).1 < c.capW ∧ (srcPos sense c i j).2 < c.capH := by
  rw [srcPos_eq_classPos sense h]
  exact classPos_lt (by rwa [classOdd_senseClass, classOdd_codeClass])

end Composition

/-! ### The way back from the capture (R119) -/

/-- The class that maps the capture to the output where `k` maps the output to the capture. -/
def MapClass.inverse (k : MapClass) : MapClass :=
  match k with
  | .quarterCcw => .quarterCw
  | .quarterCw => .quarterCcw
  | k => k

/-- The configuration with the capture and the output exchanged. -/
def RunConfig.reversed (c : RunConfig) : RunConfig :=
  { c with capW := c.outW, capH := c.outH, outW := c.capW, outH := c.capH }

theorem MapClass.inverse_inverse (k : MapClass) : k.inverse.inverse = k := by
  cases k <;> rfl

@[simp] theorem classOdd_inverse (k : MapClass) : classOdd k.inverse = classOdd k := by
  cases k <;> rfl

section Inverse
variable {k : MapClass} {c : RunConfig} {i j col row : Nat}

theorem dimsAgree_reversed {odd : Bool} (h : DimsAgree odd c.capW c.capH c.outW c.outH) :
    DimsAgree odd c.reversed.capW c.reversed.capH c.reversed.outW c.reversed.outH := by
  cases odd
  · exact ⟨h.1.symm, h.2.symm⟩
  · exact ⟨h.2.symm, h.1.symm⟩

theorem classPos_inverse_classPos (h : MapDomain (classOdd k) c i j) :
    classPos k.inverse c.reversed (classPos k c i j).1 (classPos k c i j).2 = (i, j) := by
  obtain ⟨hi, hj, hdims⟩ := h
  cases k <;> simp only [classOdd, DimsAgree, if_true, Bool.false_eq_true, if_false] at hdims <;>
    simp only [classPos, MapClass.inverse, RunConfig.reversed, Prod.mk.injEq, true_and, and_true] <;> omega

/-- R119: the output pixel a captured pixel comes from, by the inverse of the code's class. -/
def outPos (sense : RotSense) (c : RunConfig) (col row : Nat) : Nat × Nat :=
  classPos (senseClass sense (codeClass c.q c.fh c.fv)).inverse c.reversed col row

/-- R119 (c): a captured pixel comes from this output pixel and from no other. -/
theorem srcPos_eq_iff_outPos_eq (sense : RotSense) (hdims : DimsAgree (oddQuadrant c.q) c.capW c.capH c.outW c.outH)
    (hcol : col < c.capW) (hrow : row < c.capH) :
    (i < c.outW ∧ j < c.outH ∧ srcPos sense c i j = (col, row)) ↔ outPos sense c col row = (i, j) := by
  have hclass : DimsAgree (classOdd (senseClass sense (codeClass c.q c.fh c.fv))) c.capW c.capH c.outW c.outH := by
    rwa [classOdd_senseClass, classOdd_codeClass]
  constructor
  · rintro ⟨hi, hj, hpos⟩
    rw [srcPos_eq_classPos sense ⟨hi, hj, hdims⟩] at hpos
    have hback := classPos_inverse_classPos ⟨hi, hj, hclass⟩
    rwa [hpos] at hback
  · intro hpos
    have hdomain : MapDomain (classOdd (senseClass sense (codeClass c.q c.fh c.fv)).inverse) c.reversed col row :=
      ⟨hcol, hrow, by rw [classOdd_inverse]; exact dimsAgree_reversed hclass⟩
    have hforth := classPos_inverse_classPos hdomain
    obtain ⟨hi, hj⟩ := classPos_lt hdomain
    rw [← outPos, hpos] at hi hj hforth
    rw [MapClass.inverse_inverse] at hforth
    exact ⟨hi, hj, (srcPos_eq_classPos sense ⟨hi, hj, hdims⟩).trans hforth⟩

end Inverse

/-- R119 (d): in an odd quadrant the source column is a function of the row and the source row one of the column. -/
theorem srcPos_of_odd {c : RunConfig} (sense : RotSense) (h : c.q.val % 2 = 1) (i j i' j' : Nat) :
    (srcPos sense c i j).2 = (srcPos sense c i j').2 ∧ (srcPos sense c i j).1 = (srcPos sense c i' j).1 := by
  have hrotate : rotatePos sense c = turnColumn c ∨ rotatePos sense c = turnRow c := by
    unfold rotatePos
    revert h
    generalize c.q = q
    fin_cases q <;> cases sense <;> simp
  unfold srcPos
  rcases hrotate with hturn | hturn <;> rw [hturn] <;> exact ⟨rfl, rfl⟩

/-- R39: the bytes of a captured pixel end with or before the pixel bytes of its row. -/
theorem pixel_le_row (c : RunConfig) {col : Nat} (h : col < c.capW) : col * c.bpp + c.bpp ≤ c.bpp * c.capW :=
  calc col * c.bpp + c.bpp = c.bpp * (col + 1) := by ring
    _ ≤ c.bpp * c.capW := by gcongr; exact h

/-! ### Eight classes (R118) -/

/-- R118: a class has two codes, which differ by a half turn and both flips. -/
theorem codeClass_eq_iff : ∀ (q q' : Fin 4) (fh fh' fv fv' : Bool),
    codeClass q fh fv = codeClass q' fh' fv' ↔
      (q' = q ∧ fh' = fh ∧ fv' = fv) ∨ (q' = q + 2 ∧ fh' = !fh ∧ fv' = !fv) := by
  decide

/-- A frame of 2 by 2 pixels, which every quadrant admits. -/
def squareFrame : RunConfig :=
  { RunConfig.reset with capW := 2, capH := 2, outW := 2, outH := 2 }

theorem dimsAgree_squareFrame (odd : Bool) :
    DimsAgree odd squareFrame.capW squareFrame.capH squareFrame.outW squareFrame.outH := by
  cases odd <;> decide

/-- R118: the eight mappings. -/
def mapClasses : List MapClass :=
  [.identity, .mirrorLeftRight, .mirrorTopBottom, .halfTurn, .quarterCcw, .transpose, .quarterCw, .antiTranspose]

theorem mem_mapClasses (k : MapClass) : k ∈ mapClasses := by
  cases k <;> decide

/-- Where a class sends the first two pixels of the square frame tells it from the others. -/
theorem mapClass_eq_of_squareFrame {k k' : MapClass}
    (h : ∀ i, i < squareFrame.outW → classPos k squareFrame i 0 = classPos k' squareFrame i 0) : k = k' := by
  have hnodup : (mapClasses.map fun k => (classPos k squareFrame 0 0, classPos k squareFrame 1 0)).Nodup := by decide
  exact List.inj_on_of_nodup_map hnodup (mem_mapClasses k) (mem_mapClasses k')
    (Prod.ext (h 0 (by decide)) (h 1 (by decide)))

/-! ### The transform codes on an output pixel (R101 to R117) -/

section Codes
variable {q : Fin 4} {s : State}

theorem exec_xformInstr_eq_mapped (fh fv : Bool) (h : MapDomain (oddQuadrant q) s.lcfg s.i s.j) :
    exec (Sys2Proof.xformInstr q fh fv) s = .next
      (mapped s (classPos (senseClass s.cfg.rotSense (codeClass q fh fv)) s.lcfg s.i s.j).1
        (classPos (senseClass s.cfg.rotSense (codeClass q fh fv)) s.lcfg s.i s.j).2) := by
  rw [exec_xformInstr_eq_runMapper]
  exact runMapper_eq_next.mpr ⟨by rwa [classOdd_senseClass, classOdd_codeClass], rfl⟩

/-- In an even quadrant under either `ROT_SENSE`, in an odd one under `UNDO_CW`, the class is the code's own. -/
theorem exec_xformInstr_eq_mapped_codeClass (fh fv : Bool) (h : MapDomain (oddQuadrant q) s.lcfg s.i s.j)
    (hsense : oddQuadrant q = true → s.cfg.rotSense = .undoCw) :
    exec (Sys2Proof.xformInstr q fh fv) s = .next
      (mapped s (classPos (codeClass q fh fv) s.lcfg s.i s.j).1 (classPos (codeClass q fh fv) s.lcfg s.i s.j).2) := by
  have hclass : senseClass s.cfg.rotSense (codeClass q fh fv) = codeClass q fh fv := by
    cases hodd : oddQuadrant q
    · exact senseClass_of_even _ (by rw [classOdd_codeClass, hodd])
    · rw [hsense hodd]; rfl
  rw [exec_xformInstr_eq_mapped fh fv h, hclass]

/-- R93, R101: a transform code names the source pixel of R95 to R100. -/
theorem exec_xformInstr_eq_mapped_srcPos (fh fv : Bool) (h : MapDomain (oddQuadrant q) s.lcfg s.i s.j) :
    exec (Sys2Proof.xformInstr q fh fv) s = .next
      (mapped s (srcPos s.cfg.rotSense (oriented s.lcfg q fh fv) s.i s.j).1
        (srcPos s.cfg.rotSense (oriented s.lcfg q fh fv) s.i s.j).2) := by
  rw [exec_xformInstr_eq_mapped fh fv h, srcPos_oriented_eq_classPos _ fh fv h]

end Codes

end Sys2Proof.Machine
end

section
open Sys2Proof Sys2Proof.Machine Sys2Proof.Claims

/-! ### The orientation mapper -/

/-- Settles O28: each code names the pixel of `srcPos`, which the statement writes out. -/
theorem transformCodesComposeFlipThenRotation : Obligations.TransformCodesComposeFlipThenRotation := by
  intro s q fh fv hframe
  have hdomain : MapDomain (oddQuadrant q) s.lcfg s.i s.j := by
    fin_cases q <;> exact hframe
  refine (exec_xformInstr_eq_mapped_srcPos fh fv hdomain).trans ?_
  cases s.cfg.rotSense <;> fin_cases q <;> rfl

/-- Settles O29: the mapping is that of a class, which has an inverse. -/
theorem sourcePositionsAreABijection : Obligations.SourcePositionsAreABijection := by
  intro sense c hdims
  refine ⟨fun i j hi hj => srcPos_lt sense ⟨hi, hj, hdims⟩, fun col row hcol hrow => ?_, srcPos_of_odd sense⟩
  have hiff {i j : Nat} := srcPos_eq_iff_outPos_eq (i := i) (j := j) sense hdims hcol hrow
  obtain ⟨hi, hj, hpos⟩ := hiff.mpr rfl
  exact ⟨_, _, hi, hj, hpos, fun i' j' hi' hj' hpos' => Prod.mk.inj (hiff.mp ⟨hi', hj', hpos'⟩).symm⟩

/-- Settles O30: the row is that of the source pixel. -/
theorem pixelReadsStayInTheCaptureAndOffThePadding : Obligations.PixelReadsStayInTheCaptureAndOffThePadding := by
  intro p c i j hlegal hi hj
  obtain ⟨-, -, -, -, hdims, -, hpitch, -⟩ := hlegal
  obtain ⟨hcol, hrow⟩ := srcPos_lt p.rotSense ⟨hi, hj, hdims⟩
  have hpixel := pixel_le_row c hcol
  refine ⟨_, hrow, Nat.le_add_right _ _, ?_, (Nat.add_le_add_left hpitch _).trans_eq (Nat.succ_mul _ _).symm,
    Nat.mul_le_mul_right _ hrow, fun k hk => ⟨(srcPos p.rotSense c i j).1 * c.bpp + k, by omega, Nat.add_assoc _ _ _⟩⟩
  rw [sourceOffset, pixelOffset, Nat.add_assoc]
  exact Nat.add_le_add_left hpixel _

/-- Settles O31: on the square frame two codes agree only in one class, and a class has two codes. -/
theorem sixteenCodesGiveEightMappings : Obligations.SixteenCodesGiveEightMappings := by
  intro sense q q' fh fh' fv fv'
  rw [← codeClass_eq_iff]
  constructor
  · intro h
    refine (senseClass_involutive sense).injective (mapClass_eq_of_squareFrame fun i hi => ?_)
    rw [← srcPos_oriented_eq_classPos sense fh fv ⟨hi, by decide, dimsAgree_squareFrame _⟩,
      ← srcPos_oriented_eq_classPos sense fh' fv' ⟨hi, by decide, dimsAgree_squareFrame _⟩]
    exact h squareFrame (dimsAgree_squareFrame _) (dimsAgree_squareFrame _) i 0 hi (by decide)
  · intro hclass c hdims hdims' i j hi hj
    rw [srcPos_oriented_eq_classPos sense fh fv ⟨hi, hj, hdims⟩,
      srcPos_oriented_eq_classPos sense fh' fv' ⟨hi, hj, hdims'⟩, hclass]

/-- Settles O24: each code runs its class, which `ROT_SENSE` does not change. -/
theorem quadrantZeroCodesMapThePixel : Obligations.QuadrantZeroCodesMapThePixel := by
  intro s hframe
  have hcode := fun fh fv => exec_xformInstr_eq_mapped_codeClass (q := 0) fh fv hframe nofun
  exact ⟨hcode false false, hcode true false, hcode false true, hcode true true⟩

/-- Settles O25: each code runs its class, which `UNDO_CW` leaves as it is. -/
theorem quadrantOneCodesMapThePixel : Obligations.QuadrantOneCodesMapThePixel := by
  intro s hframe hsense
  have hcode := fun fh fv => exec_xformInstr_eq_mapped_codeClass (q := 1) fh fv hframe fun _ => hsense
  exact ⟨hcode false false, hcode true false, hcode false true, hcode true true⟩

/-- Settles O26: each code runs its class, which `ROT_SENSE` does not change. -/
theorem quadrantTwoCodesMapThePixel : Obligations.QuadrantTwoCodesMapThePixel := by
  intro s hframe
  have hcode := fun fh fv => exec_xformInstr_eq_mapped_codeClass (q := 2) fh fv hframe nofun
  exact ⟨hcode false false, hcode true false, hcode false true, hcode true true⟩

/-- Settles O27: each code runs its class, which `UNDO_CW` leaves as it is. -/
theorem quadrantThreeCodesMapThePixel : Obligations.QuadrantThreeCodesMapThePixel := by
  intro s hframe hsense
  have hcode := fun fh fv => exec_xformInstr_eq_mapped_codeClass (q := 3) fh fv hframe fun _ => hsense
  exact ⟨hcode false false, hcode true false, hcode false true, hcode true true⟩

end

section
/-! SUPPORT. For the statements of 42_raster_assembler.md: the raster R123 assembles, and the equation of each
sequencer step (R129 to R133). -/

namespace Sys2Proof.Machine
open Sys2Proof.Claims

/-! ### Blocks of one length -/

section Blocks
variable {α : Type} {f : Nat → List α} {n len : Nat}

theorem length_flatMap_range (hlen : ∀ i, i < n → (f i).length = len) :
    ((List.range n).flatMap f).length = n * len := by
  rw [List.length_flatMap, List.map_congr_left fun i hi => hlen i (List.mem_range.mp hi)]
  simp

/-- Element `k` of block `i`, where every block has one length. -/
theorem getElem?_flatMap_range (hlen : ∀ i, i < n → (f i).length = len) {i k : Nat} (hi : i < n) (hk : k < len) :
    ((List.range n).flatMap f)[i * len + k]? = (f i)[k]? := by
  induction n with
  | zero => omega
  | succ n ih =>
    have hbefore : ((List.range n).flatMap f).length = n * len :=
      length_flatMap_range fun i hi => hlen i (by omega)
    rw [List.range_succ, List.flatMap_append, List.flatMap_singleton]
    rcases Nat.lt_succ_iff_lt_or_eq.mp hi with hlt | rfl
    · have hin : i * len + k < n * len :=
        calc i * len + k < (i + 1) * len := by rw [Nat.succ_mul]; omega
          _ ≤ n * len := Nat.mul_le_mul_right _ hlt
      rw [List.getElem?_append_left (by rw [hbefore]; exact hin)]
      exact ih (fun i hi => hlen i (by omega)) hlt
    · rw [List.getElem?_append_right (by omega), hbefore, Nat.add_sub_cancel_left]

end Blocks

/-! ### What the invariant says of a run (R29, R30) -/

section Run
variable {p : Params} {c : RunConfig} {s : State}

theorem RunConfig.Legal.outPitch_eq (h : c.Legal p) : c.outPitch = c.nch * c.outW := by
  obtain ⟨-, -, -, -, -, -, -, -, -, -, hpitch, -⟩ := h
  exact hpitch

/-- R125: the raster fits the output window. -/
theorem RunConfig.Legal.raster_le (h : c.Legal p) : c.outPitch * c.outH ≤ p.outWindowBytes := by
  rw [h.outPitch_eq]
  obtain ⟨-, -, -, -, -, -, -, -, -, -, -, -, -, hwindow⟩ := h
  exact hwindow

theorem Inv.legal (h : Inv s) (hidle : s.phase ≠ .idle) : s.lcfg.Legal s.cfg := by
  obtain ⟨-, -, -, -, hrun, -⟩ := h
  exact (hrun hidle).1

theorem Inv.at_header (h : Inv s) (hphase : s.phase = .header) : s.j = 0 ∧ s.i = 0 := by
  obtain ⟨-, -, -, hseq, -⟩ := h
  exact (seqOk_iff_of_header hphase).mp hseq

theorem Inv.at_pixel (h : Inv s) (hphase : s.phase = .pixel) : s.j < s.lcfg.outH ∧ s.i < s.lcfg.outW := by
  obtain ⟨-, -, -, hseq, -⟩ := h
  exact (seqOk_iff_of_pixel hphase).mp hseq

theorem Inv.at_rowemit (h : Inv s) (hphase : s.phase = .rowemit) : s.j < s.lcfg.outH := by
  obtain ⟨-, -, -, hseq, -⟩ := h
  exact ((seqOk_iff_of_rowemit hphase).mp hseq).1

end Run

/-! ### The assembled raster (R123) -/

section Raster
variable {s t : State} {i j k : Nat}

theorem assembleRow_congr (hcfg : t.cfg = s.cfg) (hlcfg : t.lcfg = s.lcfg) (hsrc : t.src = s.src) (j : Nat) :
    assembleRow t j = assembleRow s j := by
  simp only [assembleRow, assemblePixel, sourcePixel, State.srcByte, hcfg, hlcfg, hsrc]

theorem assemble_congr (hcfg : t.cfg = s.cfg) (hlcfg : t.lcfg = s.lcfg) (hsrc : t.src = s.src) :
    assemble t = assemble s := by
  simp only [assemble, assembleRow_congr hcfg hlcfg hsrc, hlcfg]

/-- R90: under a latched configuration the conversion of a source pixel always answers. -/
theorem convert_sourcePixel (hlegal : s.lcfg.Legal s.cfg) (i j : Nat) :
    convert s.cfg s.lcfg.op (sourcePixel s i j) = some (assemblePixel s i j) := by
  obtain ⟨-, -, -, -, -, hbpp, -, -, -, -, -, hop, -⟩ := hlegal
  have hlength : (sourcePixel s i j).length = operandLength s.lcfg.op := by
    rw [hop, operandLength_cvtOpOf, ← hbpp]
    simp [sourcePixel]
  obtain ⟨px, hpx⟩ := convert_isSome (p := s.cfg) hlength
  rw [assemblePixel, hpx, Option.getD_some]

theorem length_assemblePixel (hlegal : s.lcfg.Legal s.cfg) (i j : Nat) :
    (assemblePixel s i j).length = s.lcfg.nch := by
  have hlength := convert_length (convert_sourcePixel hlegal i j)
  obtain ⟨-, -, -, -, -, -, -, -, halpha, hnch, -, hop, -⟩ := hlegal
  rw [hlength, hop, resultLength_cvtOpOf halpha, hnch]

theorem length_assembleRow (hlegal : s.lcfg.Legal s.cfg) (j : Nat) :
    (assembleRow s j).length = s.lcfg.outPitch := by
  rw [assembleRow, length_flatMap_range fun i _ => length_assemblePixel hlegal i j, hlegal.outPitch_eq, Nat.mul_comm]

theorem length_assemble (hlegal : s.lcfg.Legal s.cfg) : (assemble s).length = s.lcfg.outH * s.lcfg.outPitch :=
  length_flatMap_range fun j _ => length_assembleRow hlegal j

/-- R42: where row `j` stands in the raster. -/
theorem getElem?_assemble_row (hlegal : s.lcfg.Legal s.cfg) (hj : j < s.lcfg.outH) (hk : k < s.lcfg.outPitch) :
    (assemble s)[j * s.lcfg.outPitch + k]? = (assembleRow s j)[k]? :=
  getElem?_flatMap_range (fun j _ => length_assembleRow hlegal j) hj hk

/-- R42: where the pixel in column `i` of row `j` stands in the raster. -/
theorem getElem?_assemble_pixel (hlegal : s.lcfg.Legal s.cfg) (hj : j < s.lcfg.outH) (hi : i < s.lcfg.outW)
    (hk : k < s.lcfg.nch) :
    (assemble s)[j * s.lcfg.outPitch + i * s.lcfg.nch + k]? = (assemblePixel s i j)[k]? := by
  have hin : i * s.lcfg.nch + k < s.lcfg.outPitch :=
    calc i * s.lcfg.nch + k < s.lcfg.nch * (i + 1) := by rw [Nat.mul_comm, Nat.mul_succ]; omega
      _ ≤ s.lcfg.outPitch := by rw [hlegal.outPitch_eq]; gcongr; exact hi
  rw [Nat.add_assoc, getElem?_assemble_row hlegal hj hin]
  exact getElem?_flatMap_range (fun i _ => length_assemblePixel hlegal i j) hi hk

/-- Bytes that were all written are the range a read of OUT gives. -/
theorem map_outByte_eq {off : Nat} {bytes : List Byte}
    (h : ∀ k, k < bytes.length → s.out.read? (off + k) = bytes[k]?) :
    (List.range bytes.length).map (fun k => s.outByte (off + k)) = bytes := by
  refine List.ext_getElem (by simp) fun k _ hk => ?_
  rw [List.getElem_map, List.getElem_range, State.outByte, h k hk, List.getElem?_eq_getElem hk, Option.getD_some]

end Raster

/-! ### The sequencer's steps as equations (R129 to R133) -/

section Steps
variable {s : State}

theorem State.advancePixel_eq (s : State) : s.advancePixel = { s with
    phase := if s.i + 1 < s.lcfg.outW then .pixel else .rowemit
    i := if s.i + 1 < s.lcfg.outW then s.i + 1 else s.i } := by
  unfold State.advancePixel
  split <;> rfl

theorem State.advanceRow_eq (s : State) : s.advanceRow = { s with
    phase := if s.j + 1 < s.lcfg.outH then .pixel else .final
    j := if s.j + 1 < s.lcfg.outH then s.j + 1 else s.j
    i := if s.j + 1 < s.lcfg.outH then 0 else s.i } := by
  unfold State.advanceRow
  split <;> rfl

/-- The wires once the mapper has named the source pixel of the current output pixel (R92, R101). -/
def State.atSource (s : State) : State :=
  mapped s (srcPos s.cfg.rotSense s.lcfg s.i s.j).1 (srcPos s.cfg.rotSense s.lcfg s.i s.j).2

/-- R92: under a latched configuration the transform code names the source pixel of every output pixel. -/
theorem exec_xformInstr_of_legal (hlegal : s.lcfg.Legal s.cfg) (hj : s.j < s.lcfg.outH) (hi : s.i < s.lcfg.outW) :
    exec s.xformInstr s = .next s.atSource := by
  obtain ⟨-, -, -, -, hdims, -⟩ := hlegal
  exact exec_xformInstr_eq_mapped_srcPos s.lcfg.fh s.lcfg.fv ⟨hi, hj, hdims⟩

/-- R120: the read of a PIXEL step is inside the source window. -/
theorem memRead_sourceOffset {i j : Nat} (hlegal : s.lcfg.Legal s.cfg) (hj : j < s.lcfg.outH)
    (hi : i < s.lcfg.outW) :
    s.memRead (sourceOffset s.cfg.rotSense s.lcfg i j) s.lcfg.bpp = some (sourcePixel s i j) := by
  obtain ⟨r, -, -, hread, hrow, hrows, -⟩ :=
    pixelReadsStayInTheCaptureAndOffThePadding s.cfg s.lcfg i j hlegal hi hj
  obtain ⟨-, -, -, -, -, -, -, -, -, -, -, -, hwindow, -⟩ := hlegal
  rw [Nat.mul_comm] at hwindow
  exact State.memRead_eq_some.mpr ⟨by omega, rfl⟩

/-- R42: the pixel of a PIXEL step is inside the output window. -/
theorem State.outOffset_add_nch_le_window (hlegal : s.lcfg.Legal s.cfg) (hj : s.j < s.lcfg.outH)
    (hi : s.i < s.lcfg.outW) : s.outOffset + s.lcfg.nch ≤ s.cfg.outWindowBytes :=
  (State.outOffset_add_nch_le hlegal hj hi).trans hlegal.raster_le

theorem readPixel_ok_of_memRead {bytes : List Byte} (h : s.memRead s.wires.srcOff s.lcfg.bpp = some bytes) :
    readPixel .ok s = andThen (exec s.cvtInstr (s.setWires { s.wires with bytes := bytes })) writePixel := by
  rw [readPixel, h]

theorem readPixel_error_of_memRead {bytes : List Byte} (h : s.memRead s.wires.srcOff s.lcfg.bpp = some bytes) :
    readPixel .error s = .next ((s.setWires Wires.idle).enterError .sourceError) := by
  rw [readPixel, h]

theorem exec_cvtInstr_of_convert {px : List Byte} (h : convert s.cfg s.lcfg.op s.wires.bytes = some px) :
    exec s.cvtInstr s = .next (converted s px) := by
  rw [State.cvtInstr, exec_cvtInstr]
  exact runConverter_eq_next.mpr ⟨px, h, rfl⟩

theorem writePixel_of_fits (hlen : s.wires.pixel.length = s.lcfg.nch)
    (hin : s.outOffset + s.lcfg.nch ≤ s.cfg.outWindowBytes) :
    writePixel s = .next
      ((s.setOut (s.out.writeBytes s.outOffset s.wires.pixel)).setWires Wires.idle).advancePixel := by
  have hwrite := State.memWrite_eq_some.mpr ⟨hlen ▸ hin, rfl⟩
  rw [writePixel, if_pos hlen, hwrite]

/-- The state after a PIXEL step answered OK (R130). -/
def State.pixelStored (s : State) : State :=
  ((s.setOut (s.out.writeBytes s.outOffset (assemblePixel s s.i s.j))).setWires Wires.idle).advancePixel

@[simp] theorem State.pixelStored_cfg (s : State) : s.pixelStored.cfg = s.cfg := State.advancePixel_cfg _
@[simp] theorem State.pixelStored_regs (s : State) : s.pixelStored.regs = s.regs := State.advancePixel_regs _
@[simp] theorem State.pixelStored_status (s : State) : s.pixelStored.status = s.status := State.advancePixel_status _
@[simp] theorem State.pixelStored_lcfg (s : State) : s.pixelStored.lcfg = s.lcfg := State.advancePixel_lcfg _
@[simp] theorem State.pixelStored_src (s : State) : s.pixelStored.src = s.src := State.advancePixel_src _
@[simp] theorem State.pixelStored_log (s : State) : s.pixelStored.log = s.log := State.advancePixel_log _
@[simp] theorem State.pixelStored_outEpoch (s : State) : s.pixelStored.outEpoch = s.outEpoch :=
  State.advancePixel_outEpoch _
@[simp] theorem State.pixelStored_turns (s : State) : s.pixelStored.turns = s.turns := State.advancePixel_turns _

theorem State.pixelStored_out (s : State) :
    s.pixelStored.out = s.out.writeBytes s.outOffset (assemblePixel s s.i s.j) :=
  State.advancePixel_out _

/-- R130: a PIXEL step answered OK leaves every byte of OUT outside the current pixel. -/
theorem State.pixelStored_out_of_outside {a : Nat} (hlegal : s.lcfg.Legal s.cfg)
    (ha : a < s.outOffset ∨ s.outOffset + s.lcfg.nch ≤ a) :
    s.pixelStored.out.read? a = s.out.read? a ∧ s.pixelStored.outByte a = s.outByte a := by
  have hlen := length_assemblePixel hlegal s.i s.j
  have hread : s.pixelStored.out.read? a = s.out.read? a := by
    rw [State.pixelStored_out, Memory.read?_writeBytes, if_neg (by omega)]
  exact ⟨hread, by rw [State.outByte, hread, State.pixelStored_outEpoch, State.outByte]⟩

theorem pixelStep_eq_readPixel (a : Answer) (hlegal : s.lcfg.Legal s.cfg) (hj : s.j < s.lcfg.outH)
    (hi : s.i < s.lcfg.outW) : pixelStep a s = readPixel a s.atSource := by
  rw [pixelStep, exec_xformInstr_of_legal hlegal hj hi, andThen_next]

theorem pixelStep_ok_eq (hlegal : s.lcfg.Legal s.cfg) (hj : s.j < s.lcfg.outH) (hi : s.i < s.lcfg.outW) :
    pixelStep .ok s = .next s.pixelStored := by
  have hconvert := exec_cvtInstr_of_convert
    (s := s.atSource.setWires { s.atSource.wires with bytes := sourcePixel s s.i s.j })
    (convert_sourcePixel hlegal s.i s.j)
  calc pixelStep .ok s = readPixel .ok s.atSource := pixelStep_eq_readPixel .ok hlegal hj hi
    _ = andThen (exec s.cvtInstr _) writePixel := readPixel_ok_of_memRead (memRead_sourceOffset hlegal hj hi)
    _ = writePixel _ := congrArg (andThen · writePixel) hconvert
    _ = .next s.pixelStored :=
      writePixel_of_fits (length_assemblePixel hlegal s.i s.j) (State.outOffset_add_nch_le_window hlegal hj hi)

theorem pixelStep_error_eq (hlegal : s.lcfg.Legal s.cfg) (hj : s.j < s.lcfg.outH) (hi : s.i < s.lcfg.outW) :
    pixelStep .error s = .next ((s.setWires Wires.idle).enterError .sourceError) := by
  rw [pixelStep_eq_readPixel .error hlegal hj hi]
  exact readPixel_error_of_memRead (memRead_sourceOffset hlegal hj hi)

/-- The bytes of row `j` as OUT holds them (R72). -/
def State.rowBytes (s : State) (j : Nat) : List Byte :=
  (List.range s.lcfg.outPitch).map fun k => s.outByte (j * s.lcfg.outPitch + k)

/-- R131: the row a ROWEMIT step reads is inside the output window. -/
theorem outRange_row {j : Nat} (hlegal : s.lcfg.Legal s.cfg) (hj : j < s.lcfg.outH) :
    s.outRange (j * s.lcfg.outPitch) s.lcfg.outPitch = some (s.rowBytes j) := by
  have hin : j * s.lcfg.outPitch + s.lcfg.outPitch ≤ s.cfg.outWindowBytes :=
    calc j * s.lcfg.outPitch + s.lcfg.outPitch = s.lcfg.outPitch * (j + 1) := by ring
      _ ≤ s.lcfg.outPitch * s.lcfg.outH := by gcongr; exact hj
      _ ≤ s.cfg.outWindowBytes := hlegal.raster_le
  exact State.outRange_eq_some.mpr ⟨hin, rfl⟩

theorem rowemitStep_ok_eq (hlegal : s.lcfg.Legal s.cfg) (hj : s.j < s.lcfg.outH) :
    rowemitStep .ok s = .next (s.emit (.row s.j (s.rowBytes s.j)) .ok).advanceRow := by
  rw [rowemitStep, outRange_row hlegal hj]

theorem rowemitStep_error_eq (hlegal : s.lcfg.Legal s.cfg) (hj : s.j < s.lcfg.outH) :
    rowemitStep .error s = .next ((s.emit (.row s.j (s.rowBytes s.j)) .error).enterError .sinkError) := by
  rw [rowemitStep, outRange_row hlegal hj]

theorem sequencerTurn_some {a : Answer} (h : s.phase ≠ .idle) : sequencerTurn (some a) s = phaseStep a s := by
  unfold sequencerTurn
  cases hphase : s.phase with
  | idle => exact absurd hphase h
  | header | pixel | rowemit | final => rfl

theorem sequencerTurn_none (h : s.phase ≠ .idle) : sequencerTurn none s = .fault .noAnswer := by
  unfold sequencerTurn
  cases hphase : s.phase with
  | idle => exact absurd hphase h
  | header | pixel | rowemit | final => rfl

theorem sequencerTurn_of_idle (answer : Option Answer) (h : s.phase = .idle) :
    sequencerTurn answer s = .fault .idleSequencer := by
  unfold sequencerTurn
  rw [h]

theorem phaseStep_of_header (a : Answer) (h : s.phase = .header) : phaseStep a s = .next (headerStep a s) := by
  rw [phaseStep, h]

theorem phaseStep_of_pixel (a : Answer) (h : s.phase = .pixel) : phaseStep a s = pixelStep a s := by
  rw [phaseStep, h]

theorem phaseStep_of_rowemit (a : Answer) (h : s.phase = .rowemit) : phaseStep a s = rowemitStep a s := by
  rw [phaseStep, h]

theorem phaseStep_of_final (a : Answer) (h : s.phase = .final) : phaseStep a s = .next (finalStep a s) := by
  rw [phaseStep, h]

/-- A sequencer step of a run is the rule its phase selects, from the state without the turn. -/
theorem step_eq_phaseStep {a : Answer} {rest : List Turn} (ht : s.turns = .seq (some a) :: rest)
    (h : s.phase ≠ .idle) : step s = phaseStep a (s.setTurns rest) :=
  (step_of_turns ht).trans (sequencerTurn_some (s := s.setTurns rest) h)

end Steps
end Sys2Proof.Machine
end

section
/-! SUPPORT. How much of OUT each turn leaves written, and that those bytes are the raster's (R135, R151). -/

namespace Sys2Proof.Machine
open Sys2Proof.Claims

section Written
variable {s t : State} {turn : Turn}

theorem written_of_idle (h : s.phase = .idle) : written s = 0 := by simp [written, h]

theorem written_of_header (h : s.phase = .header) : written s = 0 := by simp [written, h]

theorem written_of_pixel (h : s.phase = .pixel) : written s = s.outOffset := by simp [written, h]

theorem written_of_rowemit (h : s.phase = .rowemit) : written s = (s.j + 1) * s.lcfg.outPitch := by simp [written, h]

theorem written_of_final (h : s.phase = .final) : written s = s.lcfg.outH * s.lcfg.outPitch := by simp [written, h]

theorem written_congr (hlcfg : t.lcfg = s.lcfg) (hphase : t.phase = s.phase) (hj : t.j = s.j) (hi : t.i = s.i) :
    written t = written s := by
  simp only [written, State.outOffset, hlcfg, hphase, hj, hi]

/-- R130: a PIXEL step leaves one more pixel written; at the end of a row that is the whole row. -/
theorem written_advancePixel (hpitch : s.lcfg.outPitch = s.lcfg.nch * s.lcfg.outW) (hi : s.i < s.lcfg.outW) :
    written s.advancePixel = s.outOffset + s.lcfg.nch := by
  rcases s.advancePixel_cases with ⟨-, heq⟩ | ⟨hlast, heq⟩ <;> rw [heq]
  · rw [written_of_pixel rfl]
    simp only [State.outOffset, State.setSeq_j, State.setSeq_i, State.setSeq_lcfg]
    ring
  · have hrow : s.lcfg.outPitch = s.lcfg.nch * (s.i + 1) := by
      rw [hpitch]
      congr 1
      omega
    rw [written_of_rowemit rfl]
    simp only [State.outOffset, State.setSeq_j, State.setSeq_lcfg]
    calc (s.j + 1) * s.lcfg.outPitch = s.j * s.lcfg.outPitch + s.lcfg.nch * (s.i + 1) := by
          rw [Nat.succ_mul, ← hrow]
      _ = s.j * s.lcfg.outPitch + s.i * s.lcfg.nch + s.lcfg.nch := by ring

theorem written_pixelStored (hlegal : s.lcfg.Legal s.cfg) (hi : s.i < s.lcfg.outW) :
    written s.pixelStored = s.outOffset + s.lcfg.nch :=
  written_advancePixel (s := (s.setOut _).setWires Wires.idle) hlegal.outPitch_eq hi

/-- R131: after ROWEMIT the bytes written are still those up to the end of the row. -/
theorem written_advanceRow (hj : s.j < s.lcfg.outH) : written s.advanceRow = (s.j + 1) * s.lcfg.outPitch := by
  rcases s.advanceRow_cases with ⟨-, heq⟩ | ⟨hlast, heq⟩ <;> rw [heq]
  · rw [written_of_pixel rfl]
    simp [State.outOffset]
  · rw [written_of_final rfl, State.setSeq_lcfg]
    congr 1
    omega

/-- The turn is a PIXEL step answered OK: the one turn that writes OUT (R50, R130). -/
def WritesPixel (s : State) (turn : Turn) : Prop :=
  s.phase = .pixel ∧ turn = .seq (some .ok)

/-- Any turn but a PIXEL step answered OK leaves nothing written in a run, or as much as before and the same source
and configuration. -/
theorem TurnEffect.written_cases (h : TurnEffect s turn t) (hinv : Inv s) :
    WritesPixel s turn ∨ written t = 0 ∨
      (written t = written s ∧ t.out = s.out ∧ t.lcfg = s.lcfg ∧ t.src = s.src) := by
  have ⟨_, _, hstatus, _⟩ := hinv
  cases h
  case pixelWritten hphase _ _ => exact .inl ⟨hphase, rfl⟩
  case runBegun => exact .inr (.inl (written_of_header rfl))
  case startRefused hbusy _ | sourceLoaded hbusy _ =>
    have hidle : s.phase = .idle := StatusOk.phase_idle (s := s) hstatus hbusy
    exact .inr (.inl (written_of_idle hidle))
  case sourceFailed | runFinished | eventRefused | blockReset => exact .inr (.inl (written_of_idle rfl))
  case headerAccepted hphase =>
    obtain ⟨hj, hi⟩ := hinv.at_header hphase
    refine .inr (.inl ?_)
    rw [written_of_pixel rfl]
    simp [State.outOffset, hj, hi]
  case rowAccepted bytes hphase =>
    refine .inr (.inr ⟨?_, by simp, by simp, by simp⟩)
    rw [written_of_rowemit hphase]
    exact written_advanceRow (s := s.emit (.row s.j bytes) .ok) (hinv.at_rowemit hphase)
  all_goals exact .inr (.inr ⟨written_congr (by simp) (by simp) (by simp) (by simp), by simp, by simp, by simp⟩)

theorem runTurn_pixel_ok (hphase : s.phase = .pixel) (hlegal : s.lcfg.Legal s.cfg) (hj : s.j < s.lcfg.outH)
    (hi : s.i < s.lcfg.outW) : runTurn (.seq (some .ok)) s = .next s.pixelStored :=
  calc runTurn (.seq (some .ok)) s = phaseStep .ok s := sequencerTurn_some (by simp [hphase])
    _ = pixelStep .ok s := phaseStep_of_pixel .ok hphase
    _ = .next s.pixelStored := pixelStep_ok_eq hlegal hj hi

/-- R123, R130: the pixel stored goes where the raster has it, so the bytes up to its end are the raster's. -/
theorem Assembled.pixelStored (h : Assembled s) (hphase : s.phase = .pixel) (hlegal : s.lcfg.Legal s.cfg)
    (hj : s.j < s.lcfg.outH) (hi : s.i < s.lcfg.outW) : Assembled s.pixelStored := by
  have hlen := length_assemblePixel hlegal s.i s.j
  intro a ha
  have hwritten : a < s.outOffset + s.lcfg.nch := ha.trans_eq (written_pixelStored hlegal hi)
  rw [assemble_congr s.pixelStored_cfg s.pixelStored_lcfg s.pixelStored_src, s.pixelStored_out,
    Memory.read?_writeBytes, hlen]
  split
  · next hin =>
    obtain ⟨k, rfl⟩ := Nat.exists_eq_add_of_le hin.1
    rw [Nat.add_sub_cancel_left]
    exact (getElem?_assemble_pixel hlegal hj hi (by omega)).symm
  · exact h a (by rw [written_of_pixel hphase]; omega)

theorem Assembled.of_written_zero (h : written s = 0) : Assembled s := by
  intro a ha
  omega

/-- R135: a turn keeps the bytes before the current pixel those of the raster. -/
theorem Assembled.of_runTurn (h : Assembled s) (hinv : Inv s) (hrun : runTurn turn s = .next t) : Assembled t := by
  have heffect := runTurn_effect hrun
  rcases heffect.written_cases hinv with ⟨hphase, rfl⟩ | hzero | ⟨hwritten, hout, hlcfg, hsrc⟩
  · obtain ⟨hj, hi⟩ := hinv.at_pixel hphase
    have hlegal := hinv.legal (by simp [hphase])
    obtain rfl := Host.Outcome.next.inj ((runTurn_pixel_ok hphase hlegal hj hi).symm.trans hrun)
    exact h.pixelStored hphase hlegal hj hi
  · exact .of_written_zero hzero
  · unfold Assembled
    rw [hwritten, hout, assemble_congr heffect.cfg_eq hlcfg hsrc]
    exact h

end Written
end Sys2Proof.Machine
end

section
open Sys2Proof Sys2Proof.Machine Sys2Proof.Claims

/-- Settles O48: only a PIXEL step answered OK moves the end of the bytes written forward, and it stores the pixel the
raster has there. -/
theorem everyStepKeepsTheAssembledRows : Obligations.EveryStepKeepsTheAssembledRows := by
  intro s t hinv hasm hstep
  obtain ⟨turn, rest, -, hrun⟩ := step_eq_next.mp hstep
  have hinv' : Inv (s.setTurns rest) := hinv
  have hasm' : Assembled (s.setTurns rest) := hasm
  exact hasm'.of_runTurn hinv' hrun

end

section
/-! SUPPORT. The check of R125 in the statements' arithmetic, and the START that passes it. -/

namespace Sys2Proof.Machine
open Sys2Proof.Claims

/-! ### The check of R125 in plain arithmetic -/

theorem alphaOutOf_eq_wantsAlpha (fmt : PixelFormat) (a : Bool) : alphaOutOf fmt a = wantsAlpha fmt a := by
  cases fmt <;> rfl

theorem bppOf_eq_bytesPerPixel (fmt : PixelFormat) : bppOf fmt = bytesPerPixel fmt := by
  cases fmt <;> rfl

theorem val_quadrantOf (t : Word) : (quadrantOf t).val = t.toNat % 4 := by
  simp [quadrantOf]

/-- R94: the quadrant's parity is TRANSFORM's. -/
theorem oddQuadrant_quadrantOf (t : Word) : oddQuadrant (quadrantOf t) = decide (t.toNat % 2 = 1) := by
  rw [oddQuadrant, val_quadrantOf, Nat.mod_mod_of_dvd t.toNat (by decide)]
  rfl

section Check
variable {s : State} {fmt : PixelFormat}

theorem badTransform_iff : BadTransform s.cfg s.regs ↔ TransformRejected s := Iff.rfl

theorem badDimension_iff : BadDimension s.regs ↔ DimensionsBad s := by
  have eq_zero_iff (w : Word) : w = 0#32 ↔ w.toNat = 0 := BitVec.toNat_eq
  unfold BadDimension DimensionsBad
  rw [oddQuadrant_quadrantOf, eq_zero_iff, eq_zero_iff, eq_zero_iff, eq_zero_iff]
  rcases Nat.mod_two_eq_zero_or_one s.regs.transform.toNat with heven | hodd
  · simp [heven, DimsAgree]
  · simp [hodd, DimsAgree]

theorem pitchBad_iff : PitchBad s (bytesPerPixel fmt) ↔
    s.regs.capPitch.toNat < bppOf fmt * s.regs.capWidth.toNat ∨
      pitchAligned s.cfg (bppOf fmt) s.regs.capPitch.toNat = false := by
  unfold PitchBad pitchAligned
  rw [bppOf_eq_bytesPerPixel]
  cases s.cfg.pitchAlignCheck <;> simp

theorem windowsTooSmall_iff {a : Bool} : WindowsTooSmall s (if wantsAlpha fmt a then 4 else 3) ↔
    s.regs.capPitch.toNat * s.regs.capHeight.toNat > s.cfg.srcWindowBytes ∨
      nchOf (alphaOutOf fmt a) * s.regs.outWidth.toNat * s.regs.outHeight.toNat > s.cfg.outWindowBytes := by
  rw [alphaOutOf_eq_wantsAlpha]
  rfl

/-- R125: the check passes where none of its conditions holds. -/
theorem checkConfig_eq_noError_of (hfmt : s.regs.format = formatCode fmt) (htransform : ¬ TransformRejected s)
    (hdim : ¬ DimensionsBad s) (hpitch : ¬ PitchBad s (bytesPerPixel fmt))
    (hwindows : ¬ WindowsTooSmall s (if wantsAlpha fmt s.regs.alphaReq then 4 else 3)) :
    checkConfig s.cfg s.regs = .noError := by
  rw [← badTransform_iff] at htransform
  rw [← badDimension_iff] at hdim
  obtain ⟨hlow, halign⟩ := not_or.mp (mt pitchBad_iff.mpr hpitch)
  obtain ⟨hsrc, hout⟩ := not_or.mp (mt windowsTooSmall_iff.mpr hwindows)
  simp only [checkConfig, formatOfCode_eq_some.mpr hfmt, if_neg htransform, if_neg hdim, if_neg hlow, if_neg hsrc,
    if_neg hout, Bool.eq_true_of_not_eq_false halign, Bool.not_true, Bool.false_eq_true, if_false]

/-- R126, R128: what a START that passes its check does. -/
theorem start_of_check (hfmt : formatOfCode s.regs.format = some fmt)
    (hcheck : checkConfig s.cfg s.regs = .noError) :
    s.start = ((s.setStatus s.status.cleared).setLcfg (latchConfig fmt s.regs)).beginRun := by
  simp only [State.start, hcheck, hfmt]

end Check

/-- R70 in the statements' words. -/
theorem cvtOpOf_eq (fmt : PixelFormat) (a : Bool) :
    cvtOpOf fmt a = match fmt with
      | .rgb565 => .rgb565
      | .rgba4444 => if a then .rgba4444Rgba else .rgba4444Rgb
      | .rgb888 => .rgb888
      | .rgba8888 => if a then .rgba8888Rgba else .rgba8888Rgb := by
  cases fmt <;> cases a <;> rfl

/-- R124: a CTRL write with START while not BUSY stores ALPHA_REQ and then starts. -/
theorem writeCtrl_of_start {s : State} {d : Word} (hstart : d.getLsbD 0 = true) (hidle : s.status.busy = false) :
    s.writeCtrl d = (s.setRegs { s.regs with alphaReq := d.getLsbD 1 }).start := by
  rcases s.writeCtrl_cases d with ⟨-, hclear | hbusy⟩ | ⟨heq, -⟩
  · exact absurd (hstart.symm.trans hclear) (by decide)
  · exact absurd (hidle.symm.trans hbusy) (by decide)
  · exact heq

/-- R126, R128: what a CTRL write with a START that passes its check does. -/
theorem writeCtrl_of_check {s : State} {d : Word} {fmt : PixelFormat} (hstart : d.getLsbD 0 = true)
    (hidle : s.status.busy = false) (hfmt : formatOfCode s.regs.format = some fmt)
    (hcheck : checkConfig s.cfg { s.regs with alphaReq := d.getLsbD 1 } = .noError) :
    s.writeCtrl d = (((s.setRegs { s.regs with alphaReq := d.getLsbD 1 }).setStatus s.status.cleared).setLcfg
      (latchConfig fmt { s.regs with alphaReq := d.getLsbD 1 })).beginRun :=
  (writeCtrl_of_start hstart hidle).trans (start_of_check hfmt hcheck)

/-! ### What a run keeps (R126, R138) -/

section Keeps
variable {s t : State} {turn : Turn}

/-- R126: `lcfg` changes by reset, or at a START that begins a run. -/
theorem TurnEffect.lcfg_changed (h : TurnEffect s turn t) (hne : t.lcfg ≠ s.lcfg) :
    turn = .reset ∨ (IsStart turn ∧ s.status.busy = false ∧ t.status.busy = true ∧ t.phase = .header) := by
  cases h
  case blockReset => exact .inl rfl
  case runBegun hstart hbusy _ _ => exact .inr ⟨hstart, hbusy, rfl, rfl⟩
  all_goals exact absurd (by simp) hne

/-- R138: during a run a turn that is neither reset nor the sequencer's leaves the phase and BUSY alone. -/
theorem TurnEffect.run_goes_on (h : TurnEffect s turn t) (hbusy : s.status.busy = true) :
    turn = .reset ∨ (∃ a, turn = .seq (some a)) ∨ (t.phase = s.phase ∧ t.status = s.status) := by
  cases h
  case blockReset => exact .inl rfl
  case startRefused hidle _ | runBegun hidle _ _ | sourceLoaded hidle _ =>
    exact absurd (hbusy.symm.trans hidle) (by decide)
  case registerRead | writeIgnored | registerWritten | outputRead => exact .inr (.inr ⟨by simp, by simp⟩)
  all_goals exact .inr (.inl ⟨_, rfl⟩)

end Keeps
end Sys2Proof.Machine
end

section
open Sys2Proof Sys2Proof.Machine Sys2Proof.Claims

/-! ### START -/

/-- Settles O22: the four negated conditions are those of the check, and the fields latched are the registers'. -/
theorem acceptedStartLatchesAndBegins : Obligations.AcceptedStartLatchesAndBegins := by
  intro s d fmt hstart hidle hfmt htransform hdim hpitch hwindows
  have hcheck := checkConfig_eq_noError_of (s := s.setRegs { s.regs with alphaReq := d.getLsbD 1 })
    hfmt htransform hdim hpitch hwindows
  have hwrite := writeCtrl_of_check hstart hidle (formatOfCode_eq_some.mpr hfmt) hcheck
  refine ⟨latchConfig fmt { s.regs with alphaReq := d.getLsbD 1 }, congrArg Host.Outcome.next hwrite, rfl,
    val_quadrantOf _, rfl, rfl, rfl, rfl, rfl, rfl, rfl, alphaOutOf_eq_wantsAlpha _ _, bppOf_eq_bytesPerPixel _,
    ?_, ?_, cvtOpOf_eq _ _, rfl⟩
  · rw [← alphaOutOf_eq_wantsAlpha]
    rfl
  · rw [← alphaOutOf_eq_wantsAlpha]
    rfl

/-- Settles O58: the check reads the registers and the parameters alone, and a START that passes it sets `lcfg`, `j`
and `i` anew. -/
theorem startForgetsEarlierRuns : Obligations.StartForgetsEarlierRuns := by
  intro s c j i m d t hstart hidle hexec hrun
  obtain rfl : s.writeCtrl d = t := Host.Outcome.next.inj hexec
  rcases State.start_cases (s.setRegs { s.regs with alphaReq := d.getLsbD 1 }) with
    ⟨e, -, -, hrefused⟩ | ⟨fmt, hfmt, hcheck, -⟩
  · rw [writeCtrl_of_start hstart hidle, hrefused] at hrun
    cases hrun
  · have hother := writeCtrl_of_check (s := { s with lcfg := c, j := j, i := i, out := m }) hstart hidle hfmt hcheck
    rw [writeCtrl_of_check hstart hidle hfmt hcheck]
    exact congrArg Host.Outcome.next hother

/-! ### What a run keeps -/

/-- Settles O52: among the effects only a begun run and reset set `lcfg`. -/
theorem latchedConfigurationIsFixedForTheRun : Obligations.LatchedConfigurationIsFixedForTheRun :=
  fun _ _ _ _ hturns hstep hne => (step_effect hturns hstep).lcfg_changed hne

/-- Settles O53: the effects of a host turn while BUSY leave phase and STATUS alone. -/
theorem noHostActionCancelsARun : Obligations.NoHostActionCancelsARun := by
  intro s t turn rest hturns hstep hphase hbusy hend
  rcases (step_effect hturns hstep).run_goes_on hbusy with hreset | hseq | ⟨hphase', hstatus⟩
  · exact .inl hreset
  · exact .inr hseq
  · rcases hend with hidle | hnotBusy
    · exact absurd (hphase'.symm.trans hidle) hphase
    · rw [hstatus] at hnotBusy
      exact absurd (hbusy.symm.trans hnotBusy) (by decide)

/-! ### The sequencer's steps -/

/-- Settles O6: the mapper leaves `lcfg` alone, so the conversion it meets afterwards is the one latched. -/
theorem pixelStepRunsTheLatchedInstructions : Obligations.PixelStepRunsTheLatchedInstructions := by
  intro s rest bs s1 s2 hturns hphase hmap hread hconvert
  obtain ⟨k, hk⟩ := exec_xformInstr s.lcfg.q s.lcfg.fh s.lcfg.fv
  obtain ⟨-, rfl⟩ := runMapper_eq_next.mp ((hk _).symm.trans hmap)
  calc step s = phaseStep .ok (s.setTurns rest) := step_eq_phaseStep hturns (by simp [hphase])
    _ = pixelStep .ok (s.setTurns rest) := phaseStep_of_pixel .ok hphase
    _ = readPixel .ok _ := congrArg (andThen · (readPixel .ok)) hmap
    _ = andThen (exec s.cvtInstr _) writePixel := readPixel_ok_of_memRead hread
    _ = writePixel s2 := congrArg (andThen · writePixel) hconvert

/-- Settles O36: the HEADER rule for either answer. -/
theorem headerStepEmitsTheHeader : Obligations.HeaderStepEmitsTheHeader := by
  intro s rest hphase
  have hstep {a : Answer} (hturns : s.turns = .seq (some a) :: rest) :
      step s = .next (headerStep a (s.setTurns rest)) :=
    (step_eq_phaseStep hturns (by simp [hphase])).trans (phaseStep_of_header a hphase)
  exact ⟨hstep, hstep⟩

/-- Settles O37: the pixel stored is the conversion of the source pixel, and a write of bytes changes those bytes
alone. -/
theorem pixelStepStoresTheConvertedPixel : Obligations.PixelStepStoresTheConvertedPixel := by
  intro s rest hinv hphase hturns
  obtain ⟨hj, hi⟩ := hinv.at_pixel hphase
  have hlegal := hinv.legal (by simp [hphase])
  obtain ⟨-, -, -, -, -, hwires⟩ := hinv
  have hlen := length_assemblePixel hlegal s.i s.j
  have hstep : step s = .next (s.setTurns rest).pixelStored :=
    (step_of_turns hturns).trans (runTurn_pixel_ok hphase hlegal hj hi)
  have hout : (s.setTurns rest).pixelStored.out =
      s.out.writeBytes (s.j * s.lcfg.outPitch + s.i * s.lcfg.nch) (assemblePixel s s.i s.j) :=
    State.pixelStored_out _
  refine ⟨_, _, convert_sourcePixel hlegal s.i s.j, hlen, hstep, fun k hk => ?_,
    fun a ha => State.pixelStored_out_of_outside (s := s.setTurns rest) hlegal ha, ?_⟩
  · rw [hout, Memory.read?_writeBytes, if_pos (by omega), Nat.add_sub_cancel_left]
  · rw [hout, State.pixelStored, State.advancePixel_eq, ← hwires]
    rfl

/-- Settles O39: the row is inside the output window, and the ROWEMIT rule does the rest. -/
theorem rowStepEmitsTheWholeRow : Obligations.RowStepEmitsTheWholeRow := by
  intro s rest hinv hphase
  have hne : s.phase ≠ .idle := by simp [hphase]
  have hj := hinv.at_rowemit hphase
  have hlegal := hinv.legal hne
  have hstep {a : Answer} (hturns : s.turns = .seq (some a) :: rest) : step s = rowemitStep a (s.setTurns rest) :=
    (step_eq_phaseStep hturns hne).trans (phaseStep_of_rowemit a hphase)
  refine ⟨fun hturns => ?_, fun hturns => (hstep hturns).trans (rowemitStep_error_eq hlegal hj)⟩
  rw [hstep hturns, rowemitStep_ok_eq (s := s.setTurns rest) hlegal hj, State.advanceRow_eq]
  rfl

/-- Settles O40: the FINAL rule for either answer. -/
theorem finalStepFinishesTheRun : Obligations.FinalStepFinishesTheRun := by
  intro s rest hphase
  have hstep {a : Answer} (hturns : s.turns = .seq (some a) :: rest) :
      step s = .next (finalStep a (s.setTurns rest)) :=
    (step_eq_phaseStep hturns (by simp [hphase])).trans (phaseStep_of_final a hphase)
  exact ⟨hstep, hstep⟩

/-- Settles O41: a sequencer turn looks at the phase first and then at its answer. -/
theorem sequencerIsStuckWithoutWorkOrAnswer : Obligations.SequencerIsStuckWithoutWorkOrAnswer := by
  intro s answer rest hturns
  refine ⟨fun hidle => ?_, fun hrunning hnone => ?_⟩
  · exact (step_of_turns hturns).trans (sequencerTurn_of_idle (s := s.setTurns rest) answer hidle)
  · subst hnone
    exact (step_of_turns hturns).trans (sequencerTurn_none (s := s.setTurns rest) hrunning)

end

section
/-! SUPPORT. A run answered OK to its end: the steps and the events it has left, and that each step takes one of
them (R136, R173). -/

namespace Sys2Proof.Machine
open Sys2Proof.Claims

/-- The sequencer steps a run answered OK still takes (R173). -/
def stepsLeft (s : State) : Nat :=
  match s.phase with
  | .idle => 0
  | .header => runLength s.lcfg
  | .pixel => (s.lcfg.outW - s.i) + (s.lcfg.outH - (s.j + 1)) * (s.lcfg.outW + 1) + 2
  | .rowemit => (s.lcfg.outH - (s.j + 1)) * (s.lcfg.outW + 1) + 2
  | .final => 1

/-- The accepted rows of the raster from row `j` on, and FINAL (R136). -/
def rowsLeft (s : State) (j : Nat) : List (SinkEvent × Answer) :=
  ((List.range' j (s.lcfg.outH - j)).map fun j => (SinkEvent.row j (assembleRow s j), Answer.ok)) ++ [(.final, .ok)]

/-- The events a run answered OK still emits (R136). -/
def eventsLeft (s : State) : List (SinkEvent × Answer) :=
  match s.phase with
  | .idle => []
  | .header => completeLog s
  | .pixel => rowsLeft s s.j
  | .rowemit => rowsLeft s s.j
  | .final => [(.final, .ok)]

section Left
variable {s t : State}

theorem stepsLeft_of_header (h : s.phase = .header) : stepsLeft s = runLength s.lcfg := by simp [stepsLeft, h]

theorem stepsLeft_of_pixel (h : s.phase = .pixel) :
    stepsLeft s = (s.lcfg.outW - s.i) + (s.lcfg.outH - (s.j + 1)) * (s.lcfg.outW + 1) + 2 := by simp [stepsLeft, h]

theorem stepsLeft_of_rowemit (h : s.phase = .rowemit) :
    stepsLeft s = (s.lcfg.outH - (s.j + 1)) * (s.lcfg.outW + 1) + 2 := by simp [stepsLeft, h]

theorem stepsLeft_of_final (h : s.phase = .final) : stepsLeft s = 1 := by simp [stepsLeft, h]

theorem eventsLeft_of_header (h : s.phase = .header) : eventsLeft s = completeLog s := by simp [eventsLeft, h]

theorem eventsLeft_of_pixel (h : s.phase = .pixel) : eventsLeft s = rowsLeft s s.j := by simp [eventsLeft, h]

theorem eventsLeft_of_rowemit (h : s.phase = .rowemit) : eventsLeft s = rowsLeft s s.j := by simp [eventsLeft, h]

theorem eventsLeft_of_final (h : s.phase = .final) : eventsLeft s = [(.final, .ok)] := by simp [eventsLeft, h]

theorem completeLog_eq (s : State) : completeLog s = (headerEvent s.lcfg, .ok) :: rowsLeft s 0 := by
  simp [completeLog, rowsLeft, List.range_eq_range']

theorem rowsLeft_of_lt {j : Nat} (hj : j < s.lcfg.outH) :
    rowsLeft s j = (.row j (assembleRow s j), .ok) :: rowsLeft s (j + 1) := by
  have hcount : s.lcfg.outH - j = s.lcfg.outH - (j + 1) + 1 := by omega
  rw [rowsLeft, hcount, List.range'_succ]
  rfl

theorem rowsLeft_of_le {j : Nat} (hj : s.lcfg.outH ≤ j) : rowsLeft s j = [(.final, .ok)] := by
  simp [rowsLeft, Nat.sub_eq_zero_of_le hj]

theorem stepsLeft_advancePixel (hi : s.i < s.lcfg.outW) : stepsLeft s.advancePixel + 1 =
    (s.lcfg.outW - s.i) + (s.lcfg.outH - (s.j + 1)) * (s.lcfg.outW + 1) + 2 := by
  rcases s.advancePixel_cases with ⟨hnext, heq⟩ | ⟨hlast, heq⟩ <;> rw [heq]
  · rw [stepsLeft_of_pixel rfl]
    simp only [State.setSeq_lcfg, State.setSeq_j, State.setSeq_i]
    omega
  · rw [stepsLeft_of_rowemit rfl]
    simp only [State.setSeq_lcfg, State.setSeq_j]
    omega

theorem stepsLeft_pixelStored (hi : s.i < s.lcfg.outW) : stepsLeft s.pixelStored + 1 =
    (s.lcfg.outW - s.i) + (s.lcfg.outH - (s.j + 1)) * (s.lcfg.outW + 1) + 2 :=
  stepsLeft_advancePixel (s := (s.setOut _).setWires Wires.idle) hi

theorem stepsLeft_advanceRow :
    stepsLeft s.advanceRow + 1 = (s.lcfg.outH - (s.j + 1)) * (s.lcfg.outW + 1) + 2 := by
  rcases s.advanceRow_cases with ⟨hnext, heq⟩ | ⟨hlast, heq⟩ <;> rw [heq]
  · have hrows : s.lcfg.outH - (s.j + 1) = s.lcfg.outH - (s.j + 1 + 1) + 1 := by omega
    rw [stepsLeft_of_pixel rfl]
    simp only [State.setSeq_lcfg, State.setSeq_j, State.setSeq_i, Nat.sub_zero]
    rw [hrows]
    ring
  · rw [stepsLeft_of_final rfl, Nat.sub_eq_zero_of_le hlast, Nat.zero_mul]

theorem eventsLeft_advancePixel : eventsLeft s.advancePixel = rowsLeft s s.j := by
  rcases s.advancePixel_cases with ⟨-, heq⟩ | ⟨-, heq⟩ <;> rw [heq]
  · exact eventsLeft_of_pixel rfl
  · exact eventsLeft_of_rowemit rfl

theorem eventsLeft_advanceRow : eventsLeft s.advanceRow = rowsLeft s (s.j + 1) := by
  rcases s.advanceRow_cases with ⟨-, heq⟩ | ⟨hlast, heq⟩ <;> rw [heq]
  · exact eventsLeft_of_pixel rfl
  · exact (eventsLeft_of_final rfl).trans (rowsLeft_of_le hlast).symm

/-- R131, R151: the row a ROWEMIT step emits is the raster's. -/
theorem Assembled.rowBytes_eq (h : Assembled s) (hphase : s.phase = .rowemit) (hlegal : s.lcfg.Legal s.cfg)
    (hj : s.j < s.lcfg.outH) : s.rowBytes s.j = assembleRow s s.j := by
  have hlen := length_assembleRow hlegal s.j
  have hread : ∀ k, k < (assembleRow s s.j).length →
      s.out.read? (s.j * s.lcfg.outPitch + k) = (assembleRow s s.j)[k]? := by
    intro k hk
    rw [hlen] at hk
    rw [h _ (by rw [written_of_rowemit hphase, Nat.succ_mul]; omega), getElem?_assemble_row hlegal hj hk]
  rw [State.rowBytes, ← hlen]
  simpa only [hlen] using map_outByte_eq hread

/-- R123, R151: in FINAL the first `outPitch × Ho` bytes of OUT are the raster. -/
theorem Assembled.outRange_eq (h : Assembled s) (hphase : s.phase = .final) (hlegal : s.lcfg.Legal s.cfg) :
    s.outRange 0 (s.lcfg.outPitch * s.lcfg.outH) = some (assemble s) := by
  have hlen : (assemble s).length = s.lcfg.outPitch * s.lcfg.outH := by
    rw [length_assemble hlegal, Nat.mul_comm]
  have hread : ∀ k, k < (assemble s).length → s.out.read? (0 + k) = (assemble s)[k]? := by
    intro k hk
    rw [Nat.zero_add, h k (by rwa [written_of_final hphase, ← length_assemble hlegal])]
  have hbytes := map_outByte_eq hread
  exact State.outRange_eq_some.mpr ⟨(Nat.zero_add _).trans_le hlegal.raster_le, by rw [← hlen, hbytes]⟩

end Left

/-! ### One step before the last -/

/-- One step of a run answered OK that does not end it: one step less is left, the events emitted and those left
make the same log, and no byte beyond the raster changes. -/
structure RunAdvances (s t : State) : Prop where
  cfg : t.cfg = s.cfg
  lcfg : t.lcfg = s.lcfg
  regs : t.regs = s.regs
  src : t.src = s.src
  status : t.status = s.status
  turns : t.turns = s.turns
  running : t.phase ≠ .idle
  steps : stepsLeft s = stepsLeft t + 1
  log : t.log ++ eventsLeft t = s.log ++ eventsLeft s
  beyond : ∀ a, s.lcfg.outPitch * s.lcfg.outH ≤ a → t.outByte a = s.outByte a

section Advance
variable {s : State}

theorem RunAdvances.of_header (hphase : s.phase = .header) (hj : s.j = 0) (hi : s.i = 0) (hH : 1 ≤ s.lcfg.outH) :
    RunAdvances s (headerStep .ok s) where
  cfg := rfl
  lcfg := rfl
  regs := rfl
  src := rfl
  status := rfl
  turns := rfl
  running := nofun
  steps := by
    have hrows : s.lcfg.outH = s.lcfg.outH - 1 + 1 := by omega
    have hpixel : stepsLeft (headerStep .ok s) =
        (s.lcfg.outW - s.i) + (s.lcfg.outH - (s.j + 1)) * (s.lcfg.outW + 1) + 2 := stepsLeft_of_pixel rfl
    rw [stepsLeft_of_header hphase, hpixel, hj, hi, Nat.sub_zero, Nat.zero_add, runLength]
    generalize s.lcfg.outH - 1 = h at hrows ⊢
    rw [hrows]
    ring
  log := by
    have hevents : eventsLeft (headerStep .ok s) = rowsLeft s s.j := eventsLeft_of_pixel rfl
    have hlog : (headerStep .ok s).log = s.log ++ [(headerEvent s.lcfg, .ok)] := rfl
    rw [eventsLeft_of_header hphase, completeLog_eq, hevents, hlog, hj, List.append_assoc, List.singleton_append]
  beyond _ _ := rfl

theorem RunAdvances.of_pixel (hphase : s.phase = .pixel) (hlegal : s.lcfg.Legal s.cfg) (hj : s.j < s.lcfg.outH)
    (hi : s.i < s.lcfg.outW) : RunAdvances s s.pixelStored where
  cfg := s.pixelStored_cfg
  lcfg := s.pixelStored_lcfg
  regs := s.pixelStored_regs
  src := s.pixelStored_src
  status := s.pixelStored_status
  turns := s.pixelStored_turns
  running := State.advancePixel_phase_ne_idle _
  steps := (stepsLeft_of_pixel hphase).trans (stepsLeft_pixelStored hi).symm
  log := by
    have hrows : eventsLeft s.pixelStored = rowsLeft s s.j := eventsLeft_advancePixel
    rw [hrows, s.pixelStored_log, eventsLeft_of_pixel hphase]
  beyond a ha := by
    have hraster := State.outOffset_add_nch_le hlegal hj hi
    exact (State.pixelStored_out_of_outside hlegal (.inr (hraster.trans ha))).2

theorem RunAdvances.of_rowemit (hphase : s.phase = .rowemit) (hj : s.j < s.lcfg.outH) :
    RunAdvances s (s.emit (.row s.j (assembleRow s s.j)) .ok).advanceRow where
  cfg := State.advanceRow_cfg _
  lcfg := State.advanceRow_lcfg _
  regs := State.advanceRow_regs _
  src := State.advanceRow_src _
  status := State.advanceRow_status _
  turns := State.advanceRow_turns _
  running := State.advanceRow_phase_ne_idle _
  steps := (stepsLeft_of_rowemit hphase).trans (stepsLeft_advanceRow (s := s.emit _ _)).symm
  log := by
    have hrows : eventsLeft (s.emit (.row s.j (assembleRow s s.j)) .ok).advanceRow = rowsLeft s (s.j + 1) :=
      eventsLeft_advanceRow
    rw [eventsLeft_of_rowemit hphase, rowsLeft_of_lt hj, hrows, State.advanceRow_log, State.emit_log,
      List.append_assoc, List.singleton_append]
  beyond a _ := State.outByte_congr (State.advanceRow_out _) (State.advanceRow_outEpoch _) a

/-- A step of a run answered OK, before FINAL, takes one of the steps left. -/
theorem exists_runAdvances (hinv : Inv s) (hasm : Assembled s) (hidle : s.phase ≠ .idle)
    (hfinal : s.phase ≠ .final) : ∃ t, runTurn (.seq (some .ok)) s = .next t ∧ RunAdvances s t := by
  have hlegal := hinv.legal hidle
  have hturn : runTurn (.seq (some .ok)) s = phaseStep .ok s := sequencerTurn_some hidle
  rw [hturn]
  cases hphase : s.phase with
  | idle => exact absurd hphase hidle
  | final => exact absurd hphase hfinal
  | header =>
    obtain ⟨hj, hi⟩ := hinv.at_header hphase
    have ⟨_, _, _, hH, _⟩ := hlegal
    exact ⟨_, phaseStep_of_header .ok hphase, .of_header hphase hj hi hH⟩
  | pixel =>
    obtain ⟨hj, hi⟩ := hinv.at_pixel hphase
    exact ⟨_, (phaseStep_of_pixel .ok hphase).trans (pixelStep_ok_eq hlegal hj hi), .of_pixel hphase hlegal hj hi⟩
  | rowemit =>
    have hj := hinv.at_rowemit hphase
    have hstep := (phaseStep_of_rowemit .ok hphase).trans (rowemitStep_ok_eq hlegal hj)
    rw [hasm.rowBytes_eq hphase hlegal hj] at hstep
    exact ⟨_, hstep, .of_rowemit hphase hj⟩

end Advance

/-! ### The run to its end -/

/-- What a run answered OK to its end has left of a state in it (R123, R136). -/
structure RunDelivers (s t : State) : Prop where
  out : t.outRange 0 (s.lcfg.outPitch * s.lcfg.outH) = some (assemble s)
  beyond : ∀ a, s.lcfg.outPitch * s.lcfg.outH ≤ a → t.outByte a = s.outByte a
  log : t.log = s.log ++ eventsLeft s
  status : t.status = s.status.finished
  idle : t.phase = .idle
  regs : t.regs = s.regs
  src : t.src = s.src

section Delivers
variable {s t u : State}

theorem RunDelivers.of_final (hphase : s.phase = .final) (hasm : Assembled s) (hlegal : s.lcfg.Legal s.cfg) :
    RunDelivers s (finalStep .ok s) where
  out := hasm.outRange_eq hphase hlegal
  beyond _ _ := rfl
  log := by
    rw [eventsLeft_of_final hphase]
    rfl
  status := rfl
  idle := rfl
  regs := rfl
  src := rfl

/-- What is delivered does not depend on the schedule. -/
theorem RunDelivers.of_setTurns {turns : List Turn} (h : RunDelivers (s.setTurns turns) t) : RunDelivers s t :=
  ⟨h.out, h.beyond, h.log, h.status, h.idle, h.regs, h.src⟩

theorem RunDelivers.of_advances (hadv : RunAdvances s t) (h : RunDelivers t u) : RunDelivers s u where
  out := by
    rw [← hadv.lcfg, h.out, assemble_congr hadv.cfg hadv.lcfg hadv.src]
  beyond a ha := (h.beyond a (by rwa [hadv.lcfg])).trans (hadv.beyond a ha)
  log := h.log.trans hadv.log
  status := by rw [h.status, hadv.status]
  idle := h.idle
  regs := h.regs.trans hadv.regs
  src := h.src.trans hadv.src

theorem phase_final_of_stepsLeft (hidle : s.phase ≠ .idle) (h : stepsLeft s = 1) : s.phase = .final := by
  cases hphase : s.phase with
  | idle => exact absurd hphase hidle
  | header => rw [stepsLeft_of_header hphase, runLength] at h; omega
  | pixel => rw [stepsLeft_of_pixel hphase] at h; omega
  | rowemit => rw [stepsLeft_of_rowemit hphase] at h; omega
  | final => rfl

theorem core_run_succ {n : Nat} (h : step s = .next t) : core.run (n + 1) s = core.run n t := by
  have hcore : core.step s = .next t := h
  simp only [Host.Core.run, hcore]

/-- R136, R173: by induction on the steps left. -/
theorem run_delivers {n : Nat} {rest : List Turn} (hinv : Inv s) (hasm : Assembled s) (hidle : s.phase ≠ .idle)
    (hsteps : stepsLeft s = n + 1) (hturns : s.turns = List.replicate (n + 1) (.seq (some .ok)) ++ rest) :
    ∃ t, core.run (n + 1) s = .next t ∧ RunDelivers s t ∧ t.turns = rest := by
  induction n generalizing s with
  | zero =>
    have hfinal := phase_final_of_stepsLeft hidle hsteps
    have hstep : step s = .next (finalStep .ok (s.setTurns rest)) :=
      (step_eq_phaseStep hturns hidle).trans (phaseStep_of_final .ok hfinal)
    have hdelivers := RunDelivers.of_final (s := s.setTurns rest) hfinal hasm (hinv.legal hidle)
    exact ⟨_, core_run_succ hstep, hdelivers.of_setTurns, rfl⟩
  | succ n ih =>
    have hfinal : s.phase ≠ .final := fun h => by
      rw [stepsLeft_of_final h] at hsteps
      omega
    have hinv' : Inv (s.setTurns (List.replicate (n + 1) (.seq (some .ok)) ++ rest)) := hinv
    have hasm' : Assembled (s.setTurns (List.replicate (n + 1) (.seq (some .ok)) ++ rest)) := hasm
    obtain ⟨t, hturn, hadv⟩ := exists_runAdvances hinv' hasm' hidle hfinal
    have hstep : step s = .next t := (step_of_turns hturns).trans hturn
    have hleft : stepsLeft t = n + 1 := Nat.succ.inj (hadv.steps.symm.trans hsteps)
    obtain ⟨u, hrun, hdelivers, hrest⟩ := ih ((runTurn_effect hturn).inv hinv') (hasm'.of_runTurn hinv' hturn)
      hadv.running hleft hadv.turns
    exact ⟨u, (core_run_succ hstep).trans hrun, (RunDelivers.of_advances hadv hdelivers).of_setTurns, hrest⟩

end Delivers
end Sys2Proof.Machine
end

section
open Sys2Proof Sys2Proof.Machine Sys2Proof.Claims

/-- Settles O49: in HEADER nothing is written yet, and the run has all its steps and all its events left. -/
theorem completedRunDeliversTheAssembledRaster : Obligations.CompletedRunDeliversTheAssembledRaster := by
  intro s rest hinv hphase hturns
  have hidle : s.phase ≠ .idle := by simp [hphase]
  have hcount : 2 + s.lcfg.outW * s.lcfg.outH + s.lcfg.outH = 1 + s.lcfg.outW * s.lcfg.outH + s.lcfg.outH + 1 := by
    omega
  have hsteps := (stepsLeft_of_header hphase).trans hcount
  rw [hcount] at hturns ⊢
  obtain ⟨t, hrun, hdelivers, hrest⟩ :=
    run_delivers hinv (.of_written_zero (written_of_header hphase)) hidle hsteps hturns
  obtain ⟨-, -, ⟨hbusyIff, hrunning, -, hcode⟩, -, hrunOk, -⟩ := hinv
  obtain ⟨-, herr⟩ := hrunning (hbusyIff.mpr hidle)
  obtain ⟨-, hrgba⟩ := hrunOk hidle
  have hlog := hdelivers.log
  rw [eventsLeft_of_header hphase] at hlog
  refine ⟨t, hrun, hdelivers.out, hdelivers.beyond, ?_, ?_, hdelivers.idle, hdelivers.regs, hdelivers.src, hrest⟩
  · rw [hlog, completeLog, List.append_assoc, List.append_assoc]
    rfl
  · rw [hdelivers.status, Status.finished, herr, hrgba, hcode.mp herr]

end

section
/-! SUPPORT. A run and the bytes of OUT it has not written (R51, R140): the parts of a step that do not look at OUT
commute with another contents of it, and a PIXEL step writes the same bytes over either. -/

namespace Sys2Proof.Machine
open Sys2Proof.Claims

/-! ### Turns that commute with other contents of OUT -/

section
variable (m : Memory) (s : State)

theorem State.start_setOut : (s.setOut m).start = s.start.setOut m := by
  rcases s.start_cases with ⟨e, he, hcheck, heq⟩ | ⟨fmt, hfmt, hcheck, heq⟩
  · rw [heq]
    rcases (s.setOut m).start_cases with ⟨e', -, hcheck', heq'⟩ | ⟨fmt, -, hcheck', -⟩
    · obtain rfl : e = e' := hcheck.symm.trans hcheck'
      exact heq'
    · exact absurd (hcheck.symm.trans hcheck') he
  · rw [heq, start_of_check (s := s.setOut m) hfmt hcheck]
    rfl

theorem State.writeCtrl_setOut (d : Word) : (s.setOut m).writeCtrl d = (s.writeCtrl d).setOut m := by
  rcases s.writeCtrl_cases d with ⟨heq, hno⟩ | ⟨heq, hstart, hidle⟩ <;> rw [heq]
  · rcases (s.setOut m).writeCtrl_cases d with ⟨heq', -⟩ | ⟨-, hstart, hidle⟩
    · exact heq'
    · rcases hno with hclear | hbusy
      · exact absurd (hstart.symm.trans hclear) (by decide)
      · exact absurd (hbusy.symm.trans hidle) (by decide)
  · rw [writeCtrl_of_start (s := s.setOut m) hstart hidle]
    exact State.start_setOut m (s.setRegs { s.regs with alphaReq := d.getLsbD 1 })

theorem State.advancePixel_setOut : (s.setOut m).advancePixel = s.advancePixel.setOut m := by
  simp only [State.advancePixel_eq]
  rfl

theorem State.advanceRow_setOut : (s.setOut m).advanceRow = s.advanceRow.setOut m := by
  simp only [State.advanceRow_eq]
  rfl

theorem exec_decodeRead_commutesAt_setOut (off : BitVec 8) : CommutesAt (·.setOut m) (exec (decodeRead off)) s := by
  unfold CommutesAt decodeRead
  split <;> rfl

theorem exec_decodeWrite_commutesAt_setOut (off : BitVec 8) (d : Word) :
    CommutesAt (·.setOut m) (exec (decodeWrite off d)) s := by
  unfold CommutesAt decodeWrite
  split
  case h_1 => exact congrArg Host.Outcome.next (s.writeCtrl_setOut m d)
  all_goals rfl

theorem busTurn_commutesAt_setOut (sel : BitVec 9) (d : Word) : CommutesAt (·.setOut m) (busTurn sel d) s := by
  unfold CommutesAt busTurn
  cases hi : decodeBus sel d with
  | error e => rfl
  | ok i =>
    obtain ⟨-, hrow⟩ := decodeBus_eq_ok.mp hi
    split at hrow <;> subst hrow
    · exact exec_decodeWrite_commutesAt_setOut m s _ d
    · exact exec_decodeRead_commutesAt_setOut m s _

variable {m s}

theorem rowemitStep_commutesAt_setOut (a : Answer) (hlegal : s.lcfg.Legal s.cfg) (hj : s.j < s.lcfg.outH)
    (hagree : OutAgrees s m ((s.j + 1) * s.lcfg.outPitch)) : CommutesAt (·.setOut m) (rowemitStep a) s := by
  have hrow : (s.setOut m).rowBytes s.j = s.rowBytes s.j := by
    refine List.map_congr_left fun k hk => hagree _ ?_
    calc s.j * s.lcfg.outPitch + k < s.j * s.lcfg.outPitch + s.lcfg.outPitch :=
          Nat.add_lt_add_left (List.mem_range.mp hk) _
      _ = (s.j + 1) * s.lcfg.outPitch := (Nat.succ_mul _ _).symm
  unfold CommutesAt
  cases a with
  | ok =>
    rw [rowemitStep_ok_eq hlegal hj, rowemitStep_ok_eq (s := s.setOut m) hlegal hj, State.setOut_j, hrow]
    exact congrArg Host.Outcome.next (State.advanceRow_setOut m (s.emit _ _))
  | error =>
    rw [rowemitStep_error_eq hlegal hj, rowemitStep_error_eq (s := s.setOut m) hlegal hj, State.setOut_j, hrow]
    rfl

/-- In a run every turn but reset and a PIXEL step answered OK does the same with any other contents of OUT that agree
on the bytes written. -/
theorem runTurn_commutesAt_setOut {turn : Turn} (hinv : Inv s) (hidle : s.phase ≠ .idle)
    (hagree : OutAgrees s m (written s)) (hreset : turn ≠ .reset) (hpixel : ¬ WritesPixel s turn) :
    CommutesAt (·.setOut m) (runTurn turn) s := by
  have ⟨_, _, ⟨hbusyIff, _⟩, _⟩ := hinv
  have hbusy := hbusyIff.mpr hidle
  have hlegal := hinv.legal hidle
  cases turn with
  | bus sel d => exact busTurn_commutesAt_setOut m s sel d
  | loadSrc off bytes =>
    simp only [CommutesAt, runTurn]
    rw [loadSrcTurn_of_busy off bytes hbusy, loadSrcTurn_of_busy (s := s.setOut m) off bytes hbusy]
    rfl
  | rdOut off n =>
    simp only [CommutesAt, runTurn]
    rw [rdOutTurn_of_busy off n hbusy, rdOutTurn_of_busy (s := s.setOut m) off n hbusy]
    rfl
  | reset => exact absurd rfl hreset
  | seq answer =>
    simp only [CommutesAt, runTurn]
    cases answer with
    | none =>
      rw [sequencerTurn_none hidle, sequencerTurn_none (s := s.setOut m) hidle]
      rfl
    | some a =>
      rw [sequencerTurn_some hidle, sequencerTurn_some (s := s.setOut m) hidle]
      cases hphase : s.phase with
      | idle => exact absurd hphase hidle
      | header =>
        rw [phaseStep_of_header a hphase, phaseStep_of_header (s := s.setOut m) a hphase]
        cases a <;> rfl
      | pixel =>
        obtain ⟨hj, hi⟩ := hinv.at_pixel hphase
        rw [phaseStep_of_pixel a hphase, phaseStep_of_pixel (s := s.setOut m) a hphase]
        cases a with
        | ok => exact absurd ⟨hphase, rfl⟩ hpixel
        | error =>
          rw [pixelStep_error_eq hlegal hj hi, pixelStep_error_eq (s := s.setOut m) hlegal hj hi]
          rfl
      | rowemit =>
        have hj := hinv.at_rowemit hphase
        rw [phaseStep_of_rowemit a hphase, phaseStep_of_rowemit (s := s.setOut m) a hphase]
        rw [written_of_rowemit hphase] at hagree
        exact rowemitStep_commutesAt_setOut a hlegal hj hagree
      | final =>
        rw [phaseStep_of_final a hphase, phaseStep_of_final (s := s.setOut m) a hphase]
        cases a <;> rfl

end

/-! ### Two runs with other contents of OUT -/

/-- Two outcomes of a step that stop alike, or go on to states that differ in OUT alone and agree on its first `n`
bytes and on those written. -/
inductive AgreeButOut (n : Nat) :
    Host.Outcome State Fault Refusal → Host.Outcome State Fault Refusal → Prop
  | next (t : State) (m : Memory) (hbefore : OutAgrees t m n) (hafter : OutAgrees t m (written t)) :
      AgreeButOut n (.next t) (.next (withOut t m))
  | fault (f : Fault) : AgreeButOut n (.fault f) (.fault f)
  | refused (r : Refusal) : AgreeButOut n (.refused r) (.refused r)

section
variable {s t : State} {turn : Turn} {m : Memory}

theorem TurnEffect.out_eq (h : TurnEffect s turn t) (hreset : turn ≠ .reset) (hpixel : ¬ WritesPixel s turn) :
    t.out = s.out ∧ t.outEpoch = s.outEpoch := by
  cases h
  case pixelWritten hphase _ _ => exact absurd ⟨hphase, rfl⟩ hpixel
  case blockReset => exact absurd rfl hreset
  all_goals exact ⟨by simp, by simp⟩

theorem outByte_withOut_congr (m : Memory) (h : t.outEpoch = s.outEpoch) (a : Nat) :
    (withOut t m).outByte a = (withOut s m).outByte a := by
  simp only [State.outByte, withOut, h]

theorem outAgrees_of_epoch_eq {n : Nat} (h : OutAgrees s m n) (hout : t.out = s.out)
    (hepoch : t.outEpoch = s.outEpoch) : OutAgrees t m n := fun a ha =>
  calc (withOut t m).outByte a = (withOut s m).outByte a := outByte_withOut_congr m hepoch a
    _ = s.outByte a := h a ha
    _ = t.outByte a := State.outByte_congr hout.symm hepoch.symm a

theorem outAgrees_mono {n k : Nat} (h : OutAgrees s m n) (hle : k ≤ n) : OutAgrees s m k :=
  fun a ha => h a (by omega)

theorem agreeButOut_of_commutesAt {n : Nat} {f : State → Host.Outcome State Fault Refusal}
    (h : CommutesAt (·.setOut m) f s)
    (hnext : ∀ t, f s = .next t → OutAgrees t m n ∧ OutAgrees t m (written t)) :
    AgreeButOut n (f s) (f (s.setOut m)) := by
  unfold CommutesAt at h
  rw [h]
  cases hfs : f s with
  | next t =>
    obtain ⟨hbefore, hafter⟩ := hnext t hfs
    exact .next t m hbefore hafter
  | fault r => exact .fault r
  | refused r => exact .refused r

/-- R130: a PIXEL step answered OK converts the same source pixel and writes it over either contents. -/
theorem agreeButOut_pixelStored (hlegal : s.lcfg.Legal s.cfg) (hi : s.i < s.lcfg.outW)
    (hagree : OutAgrees s m s.outOffset) :
    AgreeButOut s.outOffset (.next s.pixelStored) (.next (s.setOut m).pixelStored) := by
  have hother : (s.setOut m).pixelStored =
      withOut s.pixelStored (m.writeBytes s.outOffset (assemblePixel s s.i s.j)) := by
    unfold State.pixelStored
    simp only [State.advancePixel_eq]
    rfl
  have hpixel : OutAgrees s.pixelStored (m.writeBytes s.outOffset (assemblePixel s s.i s.j))
      (s.outOffset + s.lcfg.nch) := by
    intro a ha
    rw [← length_assemblePixel hlegal s.i s.j] at ha
    calc (withOut s.pixelStored (m.writeBytes s.outOffset (assemblePixel s s.i s.j))).outByte a
        = ((s.setOut m).setOut (m.writeBytes s.outOffset (assemblePixel s s.i s.j))).outByte a :=
          outByte_withOut_congr _ s.pixelStored_outEpoch a
      _ = (s.setOut (s.out.writeBytes s.outOffset (assemblePixel s s.i s.j))).outByte a := by
          rw [State.outByte_setOut_writeBytes]
          refine (State.outByte_setOut_writeBytes (s.setOut m) _ _ a).trans ?_
          split
          · rfl
          · exact hagree a (by omega)
      _ = s.pixelStored.outByte a :=
          (State.outByte_congr (t := s.setOut _) s.pixelStored_out s.pixelStored_outEpoch a).symm
  rw [hother]
  exact .next _ _ (outAgrees_mono hpixel (Nat.le_add_right _ _))
    (outAgrees_mono hpixel (written_pixelStored hlegal hi).le)

/-- R140: in a run, what a turn does depends on the bytes of OUT the run has written and on no others. -/
theorem agreeButOut_runTurn (turn : Turn) (hinv : Inv s) (hidle : s.phase ≠ .idle)
    (hagree : OutAgrees s m (written s)) : AgreeButOut (written s) (runTurn turn s) (runTurn turn (s.setOut m)) := by
  by_cases hreset : turn = .reset
  · subst hreset
    exact .next (applyReset s) [] (fun _ _ => rfl) (fun _ _ => rfl)
  by_cases hpixel : WritesPixel s turn
  · obtain ⟨hphase, rfl⟩ := hpixel
    obtain ⟨hj, hi⟩ := hinv.at_pixel hphase
    have hlegal := hinv.legal hidle
    rw [written_of_pixel hphase] at hagree ⊢
    rw [runTurn_pixel_ok hphase hlegal hj hi, runTurn_pixel_ok (s := s.setOut m) hphase hlegal hj hi]
    exact agreeButOut_pixelStored hlegal hi hagree
  · refine agreeButOut_of_commutesAt (runTurn_commutesAt_setOut hinv hidle hagree hreset hpixel) fun t ht => ?_
    have heffect := runTurn_effect ht
    obtain ⟨hout, hepoch⟩ := heffect.out_eq hreset hpixel
    have hbefore := outAgrees_of_epoch_eq hagree hout hepoch
    have hle : written t ≤ written s := by
      rcases heffect.written_cases hinv with hwrites | hzero | ⟨heq, -⟩
      · exact absurd hwrites hpixel
      · omega
      · exact heq.le
    exact ⟨hbefore, outAgrees_mono hbefore hle⟩

/-- R140, for the next turn of the schedule. -/
theorem agreeButOut_step (hinv : Inv s) (hidle : s.phase ≠ .idle) (hagree : OutAgrees s m (written s)) :
    AgreeButOut (written s) (step s) (step (withOut s m)) := by
  cases hturns : s.turns with
  | nil =>
    have hstuck (u : State) (hu : u.turns = []) : step u = .fault .noTurn := by rw [step, hu]
    rw [hstuck s hturns, hstuck (withOut s m) hturns]
    exact .fault .noTurn
  | cons turn rest =>
    rw [step_of_turns hturns, step_of_turns (s := withOut s m) hturns]
    exact agreeButOut_runTurn (s := s.setTurns rest) turn hinv hidle hagree

end
end Sys2Proof.Machine
end

section
open Sys2Proof Sys2Proof.Machine Sys2Proof.Claims

/-- Settles O59: a PIXEL step writes the same bytes over either contents, a ROWEMIT step reads bytes already written,
and no other turn in a run looks at OUT. -/
theorem runIgnoresTheBytesOfOutItHasNotWritten : Obligations.RunIgnoresTheBytesOfOutItHasNotWritten := by
  intro s m hinv hidle hagree
  have h := agreeButOut_step hinv hidle hagree
  revert h
  generalize step s = o
  generalize step (withOut s m) = o'
  intro h
  cases h with
  | next t m' hbefore hafter => exact ⟨m', rfl, hbefore, hafter⟩
  | fault f => rfl
  | refused r => rfl

end

section
/-! SUPPORT. The check of R125 as one chain of the statements' conditions, and the START it refuses (R127). -/

namespace Sys2Proof.Machine
open Sys2Proof.Claims

section Refusal
variable {s : State} {d : Word} {fmt : PixelFormat} {e : ErrCode}

theorem formatOfCode_eq_none {f : Word} (h : f.toNat > 3) : formatOfCode f = none := by
  cases hf : formatOfCode f with
  | none => rfl
  | some fmt => exact absurd (exists_eq_formatCode.mp ⟨fmt, formatOfCode_eq_some.mp hf⟩) (by omega)

/-- R125 step 1. -/
theorem checkConfig_eq_badFormat (h : s.regs.format.toNat > 3) : checkConfig s.cfg s.regs = .badFormat := by
  rw [checkConfig, formatOfCode_eq_none h]

open Classical in
/-- R125 steps 2 to 5: with a format named, the first condition of the chain that holds gives the code. -/
theorem checkConfig_of_format (hfmt : s.regs.format = formatCode fmt) :
    checkConfig s.cfg s.regs =
      if TransformRejected s then .badTransform
      else if DimensionsBad s then .badDimension
      else if PitchBad s (bytesPerPixel fmt) then .badPitch
      else if WindowsTooSmall s (if wantsAlpha fmt s.regs.alphaReq then 4 else 3) then .resource
      else .noError := by
  simp only [checkConfig, formatOfCode_eq_some.mpr hfmt, ← badTransform_iff, ← badDimension_iff, pitchBad_iff,
    windowsTooSmall_iff, ite_or, Bool.not_eq_true']

/-- R125: `IGNORE` leaves BAD_TRANSFORM out of the chain. -/
theorem checkConfig_ne_badTransform (h : s.cfg.reservedPolicy = .ignore) :
    checkConfig s.cfg s.regs ≠ .badTransform := by
  have hnot : ¬ TransformRejected s := fun ⟨hreject, _⟩ => absurd (h.symm.trans hreject) (by decide)
  rcases Nat.lt_or_ge 3 s.regs.format.toNat with hbad | hle
  · rw [checkConfig_eq_badFormat hbad]
    decide
  · obtain ⟨fmt, hfmt⟩ := exists_eq_formatCode.mpr hle
    rw [checkConfig_of_format hfmt, if_neg hnot]
    simp [ite_eq_iff]

/-- The state a START's check reads: the CTRL write has stored ALPHA_REQ (R124). -/
def State.alphaStored (s : State) (d : Word) : State :=
  s.setRegs { s.regs with alphaReq := d.getLsbD 1 }

theorem State.writeCtrl_eq_start (hstart : d.getLsbD 0 = true) (hidle : s.status.busy = false) :
    s.writeCtrl d = (s.alphaStored d).start := writeCtrl_of_start hstart hidle

/-- R61, R62: STATUS after a refused START reads the code in bits 11:8 and ERR in bit 2. -/
theorem afterRefusedStart_word (s : State) (d : Word) (e : ErrCode) :
    (afterRefusedStart s d e).status.word = BitVec.ofNat 32 (e.code.toNat * 2 ^ 8 + 2 ^ 2) := by
  change Status.word { busy := false, done := false, err := true, outRgba := false, errCode := e } = _
  cases e <;> decide

/-- R127: what a CTRL write with a START that fails its check does, and what STATUS then reads. -/
theorem exec_wrCtrl_of_refused (hstart : d.getLsbD 0 = true) (hidle : s.status.busy = false)
    (hcheck : checkConfig (s.alphaStored d).cfg (s.alphaStored d).regs = e) (he : e ≠ .noError) :
    exec (.wrCtrl d) s = .next (afterRefusedStart s d e) ∧
      (afterRefusedStart s d e).status.word = BitVec.ofNat 32 (e.code.toNat * 2 ^ 8 + 2 ^ 2) := by
  subst hcheck
  refine ⟨?_, afterRefusedStart_word s d _⟩
  rcases (s.alphaStored d).start_cases with ⟨_, -, rfl, hrefused⟩ | ⟨_, -, hpass, -⟩
  · exact congrArg Host.Outcome.next ((State.writeCtrl_eq_start hstart hidle).trans hrefused)
  · exact absurd hpass he

end Refusal
end Sys2Proof.Machine
end

section
open Sys2Proof Sys2Proof.Machine Sys2Proof.Claims

/-! ### The errors of START -/

/-- Settles O17: FORMAT above 3 names no format, the first thing the check asks. -/
theorem startRefusesUnknownFormats : Obligations.StartRefusesUnknownFormats := by
  intro s d hstart hidle hformat
  have hcheck := checkConfig_eq_badFormat (s := s.alphaStored d) hformat
  exact exec_wrCtrl_of_refused hstart hidle hcheck (by decide)

/-- Settles O18: a reserved bit is the chain's first condition, and under `IGNORE` neither a refused START nor one that
begins a run sets the code. -/
theorem startRefusesReservedTransformBits : Obligations.StartRefusesReservedTransformBits := by
  intro s d hstart hidle
  refine ⟨fun hle hrejected => ?_, fun hignore t hexec => ?_⟩
  · obtain ⟨fmt, hfmt⟩ := exists_eq_formatCode.mpr hle
    have hcheck := (checkConfig_of_format (s := s.alphaStored d) hfmt).trans (if_pos hrejected)
    exact exec_wrCtrl_of_refused hstart hidle hcheck (by decide)
  · obtain rfl : s.writeCtrl d = t := Host.Outcome.next.inj hexec
    rw [State.writeCtrl_eq_start hstart hidle]
    rcases (s.alphaStored d).start_cases with ⟨e, -, rfl, hrefused⟩ | ⟨fmt, -, -, hbegun⟩
    · rw [hrefused]
      exact checkConfig_ne_badTransform (s := s.alphaStored d) hignore
    · rw [hbegun]
      exact ErrCode.noConfusion

/-- Settles O19: the dimensions are the chain's second condition. -/
theorem startRefusesBadDimensions : Obligations.StartRefusesBadDimensions := by
  intro s d hstart hidle hle htransform hdim
  obtain ⟨fmt, hfmt⟩ := exists_eq_formatCode.mpr hle
  have hcheck := (checkConfig_of_format (s := s.alphaStored d) hfmt).trans
    ((if_neg htransform).trans (if_pos hdim))
  exact exec_wrCtrl_of_refused hstart hidle hcheck (by decide)

/-- Settles O20: the pitch is the chain's third condition. -/
theorem startRefusesBadPitch : Obligations.StartRefusesBadPitch := by
  intro s d fmt hstart hidle hfmt htransform hdim hpitch
  have hcheck := (checkConfig_of_format (s := s.alphaStored d) hfmt).trans
    ((if_neg htransform).trans ((if_neg hdim).trans (if_pos hpitch)))
  exact exec_wrCtrl_of_refused hstart hidle hcheck (by decide)

/-- Settles O21: the windows are the chain's last condition, over the ALPHA_REQ that the same write stores. -/
theorem startRefusesWindowsTooSmall : Obligations.StartRefusesWindowsTooSmall := by
  intro s d fmt hstart hidle hfmt htransform hdim hpitch hwindows
  have hcheck := (checkConfig_of_format (s := s.alphaStored d) hfmt).trans
    ((if_neg htransform).trans ((if_neg hdim).trans ((if_neg hpitch).trans (if_pos hwindows))))
  exact exec_wrCtrl_of_refused hstart hidle hcheck (by decide)

/-! ### The source window's error -/

/-- Settles O38: the pixel's bytes are inside the source window, so the step gets to the answer, and it aborts with the
wires idle as they were. -/
theorem sourceErrorEndsTheRunUnwritten : Obligations.SourceErrorEndsTheRunUnwritten := by
  intro s rest hinv hphase hturns
  have hne : s.phase ≠ .idle := by simp [hphase]
  obtain ⟨hj, hi⟩ := hinv.at_pixel hphase
  have hlegal := hinv.legal hne
  obtain ⟨-, -, -, -, -, hwires⟩ := hinv
  calc step s = phaseStep .error (s.setTurns rest) := step_eq_phaseStep hturns hne
    _ = pixelStep .error (s.setTurns rest) := phaseStep_of_pixel .error hphase
    _ = .next (((s.setTurns rest).setWires Wires.idle).enterError .sourceError) :=
      pixelStep_error_eq (s := s.setTurns rest) hlegal hj hi
    _ = .next (afterAbort { s with turns := rest } .sourceError) := by
      rw [← hwires]
      rfl

end

section
/-! SUPPORT. The statements of 70_reset_and_hazards.md: the registers are no operand of any part of a sequencer step
(R168), and STATUS right after reset (R162). -/

namespace Sys2Proof.Machine

/-! ### Sequencer steps commute with other register contents (R55, R168) -/

section
variable (r : Regs) (s : State)

theorem State.advancePixel_setRegs : (s.setRegs r).advancePixel = s.advancePixel.setRegs r := by
  simp only [State.advancePixel_eq]
  rfl

theorem State.advanceRow_setRegs : (s.setRegs r).advanceRow = s.advanceRow.setRegs r := by
  simp only [State.advanceRow_eq]
  rfl

theorem State.memRead_setRegs (off n : Nat) : (s.setRegs r).memRead off n = s.memRead off n := rfl

theorem State.outRange_setRegs (off n : Nat) : (s.setRegs r).outRange off n = s.outRange off n := rfl

theorem State.outOffset_setRegs : (s.setRegs r).outOffset = s.outOffset := rfl

theorem State.memWrite_setRegs (off : Nat) (bs : List Byte) :
    (s.setRegs r).memWrite off bs = (s.memWrite off bs).map (State.setRegs · r) := by
  unfold State.memWrite
  rw [State.setRegs_cfg]
  split <;> rfl

theorem runMapper_commutesAt_setRegs (k : MapClass) : CommutesAt (·.setRegs r) (runMapper k) s := by
  unfold CommutesAt runMapper
  by_cases hdom : MapDomain (classOdd k) s.lcfg s.i s.j
  · rw [if_pos hdom, if_pos (show MapDomain _ (s.setRegs r).lcfg (s.setRegs r).i (s.setRegs r).j from hdom)]
    rfl
  · rw [if_neg hdom, if_neg (show ¬ MapDomain _ (s.setRegs r).lcfg (s.setRegs r).i (s.setRegs r).j from hdom)]
    rfl

theorem runConverter_commutesAt_setRegs (f : List Byte → Option (List Byte)) :
    CommutesAt (·.setRegs r) (runConverter f) s := by
  unfold CommutesAt runConverter
  rw [State.setRegs_wires]
  cases f s.wires.bytes <;> rfl

theorem exec_xformInstr_commutesAt_setRegs (q : Fin 4) (fh fv : Bool) :
    CommutesAt (·.setRegs r) (exec (Sys2Proof.xformInstr q fh fv)) s := by
  obtain ⟨k, hk⟩ := exec_xformInstr q fh fv
  simp only [CommutesAt, hk]
  exact runMapper_commutesAt_setRegs r s _

theorem exec_cvtInstr_commutesAt_setRegs (op : CvtOp) : CommutesAt (·.setRegs r) (exec (cvtInstr op)) s := by
  simp only [CommutesAt, exec_cvtInstr]
  exact runConverter_commutesAt_setRegs r s _

theorem writePixel_commutesAt_setRegs : CommutesAt (·.setRegs r) writePixel s := by
  unfold CommutesAt writePixel
  rw [State.setRegs_wires, State.setRegs_lcfg, State.outOffset_setRegs, State.memWrite_setRegs]
  split
  · cases s.memWrite s.outOffset s.wires.pixel with
    | none => rfl
    | some t => exact congrArg Host.Outcome.next ((t.setWires Wires.idle).advancePixel_setRegs r)
  · rfl

theorem readPixel_commutesAt_setRegs (a : Answer) : CommutesAt (·.setRegs r) (readPixel a) s := by
  unfold CommutesAt readPixel
  rw [State.setRegs_wires, State.setRegs_lcfg, State.memRead_setRegs]
  cases s.memRead s.wires.srcOff s.lcfg.bpp with
  | none => rfl
  | some bs =>
    cases a with
    | error => rfl
    | ok =>
      have hconvert := exec_cvtInstr_commutesAt_setRegs r (s.setWires { s.wires with bytes := bs }) s.lcfg.op
      exact hconvert.andThen fun t _ => writePixel_commutesAt_setRegs r t

theorem pixelStep_commutesAt_setRegs (a : Answer) : CommutesAt (·.setRegs r) (pixelStep a) s :=
  (exec_xformInstr_commutesAt_setRegs r s s.lcfg.q s.lcfg.fh s.lcfg.fv).andThen
    fun t _ => readPixel_commutesAt_setRegs r t a

theorem rowemitStep_commutesAt_setRegs (a : Answer) : CommutesAt (·.setRegs r) (rowemitStep a) s := by
  unfold CommutesAt rowemitStep
  rw [State.setRegs_j, State.setRegs_lcfg, State.outRange_setRegs]
  cases s.outRange (s.j * s.lcfg.outPitch) s.lcfg.outPitch with
  | none => rfl
  | some bytes =>
    cases a with
    | ok => exact congrArg Host.Outcome.next ((s.emit (.row s.j bytes) .ok).advanceRow_setRegs r)
    | error => rfl

/-- R168: the rule the phase selects works on `lcfg`, the sequencer and the windows, never on a register. -/
theorem phaseStep_commutesAt_setRegs (a : Answer) : CommutesAt (·.setRegs r) (phaseStep a) s := by
  unfold CommutesAt phaseStep
  rw [State.setRegs_phase]
  cases s.phase with
  | idle => rfl
  | header => cases a <;> rfl
  | pixel => exact pixelStep_commutesAt_setRegs r s a
  | rowemit => exact rowemitStep_commutesAt_setRegs r s a
  | final => cases a <;> rfl

theorem sequencerTurn_commutesAt_setRegs (answer : Option Answer) :
    CommutesAt (·.setRegs r) (sequencerTurn answer) s := by
  unfold CommutesAt
  by_cases hidle : s.phase = .idle
  · rw [sequencerTurn_of_idle answer hidle, sequencerTurn_of_idle (s := s.setRegs r) answer hidle]
    rfl
  · cases answer with
    | none =>
      rw [sequencerTurn_none hidle, sequencerTurn_none (s := s.setRegs r) hidle]
      rfl
    | some a =>
      rw [sequencerTurn_some hidle, sequencerTurn_some (s := s.setRegs r) hidle]
      exact phaseStep_commutesAt_setRegs r s a

end

/-! ### CTRL while BUSY, and reset -/

theorem State.writeCtrl_of_busy {s : State} (d : Word) (hbusy : s.status.busy = true) :
    s.writeCtrl d = s.setRegs { s.regs with alphaReq := d.getLsbD 1 } := by
  rcases s.writeCtrl_cases d with ⟨hstore, -⟩ | ⟨-, -, hidle⟩
  · exact hstore
  · exact absurd (hbusy.symm.trans hidle) (by decide)

theorem Status.reset_word : Status.reset.word = 0x00000000#32 := by decide

/-- R59: a TRANSFORM of 0 has no reserved bit set. -/
theorem not_transformRejected_of_zero {s : State} (h : s.regs.transform = 0#32) : ¬ Claims.TransformRejected s :=
  fun ⟨_, hne⟩ => hne (by rw [h, BitVec.zero_and])

end Sys2Proof.Machine
end

section
open Sys2Proof Sys2Proof.Machine Sys2Proof.Claims

/-! ### Register writes during a run -/

/-- Settles O56: no part of a sequencer step looks at a register, so each does the same with other contents. -/
theorem sequencerIgnoresTheRegisters : Obligations.SequencerIgnoresTheRegisters :=
  fun s r answer => sequencerTurn_commutesAt_setRegs r s answer

/-- Settles O16: while BUSY a CTRL write is its register update alone, whatever START says. -/
theorem startWhileBusyIsIgnored : Obligations.StartWhileBusyIsIgnored :=
  fun _ d _ hbusy => congrArg Host.Outcome.next (State.writeCtrl_of_busy d hbusy)

/-! ### Reset -/

/-- Settles O23: the registers after reset name RGB565 and no reserved bit, so the first condition of the check that
holds is that a dimension is 0; the window sizes come after it. -/
theorem startRightAfterResetIsRefused : Obligations.StartRightAfterResetIsRefused := by
  have hformat : State.reset.regs.format.toNat ≤ 3 := Nat.zero_le 3
  have hdim : DimensionsBad State.reset := .inl rfl
  exact startRefusesBadDimensions State.reset 0x00000001#32 (by decide) rfl hformat
    (not_transformRejected_of_zero rfl) hdim

/-- Settles O45: a reset turn is enabled in every state, and its next state has the reset values. -/
theorem resetClearsEveryRegister : Obligations.ResetClearsEveryRegister := by
  intro s rest hturns
  have hreset : step s = .next (applyReset (s.setTurns rest)) := step_of_turns hturns
  exact ⟨_, hreset, applyReset_regs _, Status.reset_word, rfl, applyReset_phase _,
    applyReset_src _, applyReset_log _, applyReset_cfg _, applyReset_turns _⟩

end
